-- ==== Sys2Proof/Word.lean ====
section
/-! DEFINITION. The word types of the command bus and of the sample memory (00_scope.md R7, 20_memory.md R50, 30_encoding.md R71). -/

namespace Sys2Proof

/-- One byte: a sample-memory byte, a table entry, an 8-bit register. -/
abbrev Byte := BitVec 8

/-- The 32-bit data of the command bus: write data D and read data RD (R71). -/
abbrev Data := BitVec 32

/-- A register address A, 0x00 to 0xFF (R50, R71). -/
abbrev RegAddr := BitVec 8

/-- A 41-bit command word CW (R71). -/
abbrev CommandWord := BitVec 41

end Sys2Proof
end

