-- ==== Sys2Proof/Config.lean ====
section
/-! DEFINITION. The configuration of 00_scope.md R5: what an implementation fixes for a run. It is no architectural state
(10_state.md R10); State carries it in the field cfg as the model's argument, so a claim over every state is a claim over every
configuration. The OPEN parameters without a default are opaque constants: nothing can be proved about their values. -/

namespace Sys2Proof

/-- DMC_MODE (R5, R180): one or two bits for each effective clock. -/
inductive DmcMode where
  | full
  | half
  deriving DecidableEq, Repr

/-- MIX_MODE (R5, R225, R227). -/
inductive MixMode where
  | lut
  | linear
  deriving DecidableEq, Repr

/-- STEREO_MODE (R5, R224). -/
inductive StereoMode where
  | stereo
  | mono
  deriving DecidableEq, Repr

/-- TICK_US: a whole number of microseconds in [1, 1000] (R5, R6). -/
abbrev TickUs := { n : Nat // 1 ≤ n ∧ n ≤ 1000 }

/-- A pulse blend table [0,15] × [0,15] → [0,30], indexed by p1 and then p2 (R5, R224). Its entries are at most 30 by their type,
which is the second check of R6. -/
abbrev PulseBlend := Vector (Vector (Fin 31) 16) 16

/-- The parameters of R5. DAC_BITS is fixed at 8 (D37), so DAC values and LINEAR_MIX entries are bytes, which is the fourth
check of R6. SampleMem stands beside this structure in State. -/
structure Config where
  dmcMode : DmcMode
  mixMode : MixMode
  stereoMode : StereoMode
  pulseBlendL : PulseBlend
  pulseBlendR : PulseBlend
  linearMix : Vector (Vector Byte 203) 31
  pulseLut : Vector Byte 31
  tndLut : Vector Byte 203
  triLut : Vector Byte 256
  noiseRateNtsc : Vector Data 16
  noiseRatePal : Vector Data 16
  dmcRateNtsc : Vector Data 16
  dmcRatePal : Vector Data 16
  frameUsNtsc : Data
  frameUsPal : Data
  tickUs : TickUs
  /-- SAMPLE_RATE in Hz: no rule of the block reads it (R5, R246); the host's FREQ pseudo-instruction does (R79). DESIGN CHOICE
  (log entry 17): a natural number, where R5 gives no number format, so a rate that is no whole number of Hz cannot be written. -/
  sampleRate : Nat
  dmcResetClearsClock : Bool
  deriving DecidableEq, Repr

/-- The table of f 0, …, f (n - 1). -/
def tabulate {α : Type} (n : Nat) (f : Nat → α) : Vector α n :=
  ⟨((List.range n).map f).toArray, by simp⟩

/-- Default TRI_LUT (R131): 15 - (i >> 3) below 128, (i >> 3) - 16 from 128. -/
def defaultTriLut : Vector Byte 256 :=
  tabulate 256 fun i => if i < 128 then BitVec.ofNat 8 (15 - (i >>> 3)) else BitVec.ofNat 8 ((i >>> 3) - 16)

/-- Default PULSE_BLEND_L (R224): (3·p1 + p2) >> 1. -/
def defaultBlendL : PulseBlend :=
  tabulate 16 fun p1 => tabulate 16 fun p2 => Fin.ofNat 31 ((3 * p1 + p2) >>> 1)

/-- Default PULSE_BLEND_R (R224): (p1 + 3·p2) >> 1. -/
def defaultBlendR : PulseBlend :=
  tabulate 16 fun p1 => tabulate 16 fun p2 => Fin.ofNat 31 ((p1 + 3 * p2) >>> 1)

/-- The entries of the default PULSE_LUT, normative as listed (R226). -/
def defaultPulseEntries : List Nat :=
  ([0, 2, 4, 7, 9, 11, 13, 15, 17, 19, 21, 22, 24, 26, 28, 29] ++
   [31, 32, 34, 35, 37, 38, 40, 41, 43, 44, 45, 47, 48, 49, 50])

/-- The entries of the default TND_LUT, normative as listed (R226). -/
def defaultTndEntries : List Nat :=
  [0, 1, 3, 4, 5, 6, 8, 9, 10, 11, 13, 14, 15, 16, 17, 19] ++ (
   [20, 21, 22, 23, 24, 25, 27, 28, 29, 30, 31, 32, 33, 34, 35, 36] ++ (
   [37, 38, 39, 40, 41, 42, 43, 44, 45, 46, 47, 48, 49, 50, 51, 52] ++ (
   [53, 54, 55, 56, 56, 57, 58, 59, 60, 61, 62, 63, 63, 64, 65, 66] ++ (
   [67, 68, 68, 69, 70, 71, 72, 72, 73, 74, 75, 76, 76, 77, 78, 79] ++ (
   [79, 80, 81, 82, 82, 83, 84, 84, 85, 86, 87, 87, 88, 89, 89, 90] ++ (
   [91, 91, 92, 93, 93, 94, 95, 95, 96, 97, 97, 98, 99, 99, 100, 101] ++ (
   [101, 102, 102, 103, 104, 104, 105, 105, 106, 107, 107, 108, 108, 109, 109, 110] ++ (
   [111, 111, 112, 112, 113, 113, 114, 114, 115, 116, 116, 117, 117, 118, 118, 119] ++ (
   [119, 120, 120, 121, 121, 122, 122, 123, 123, 124, 124, 125, 125, 126, 126, 127] ++ (
   [127, 128, 128, 129, 129, 130, 130, 131, 131, 131, 132, 132, 133, 133, 134, 134] ++ (
   [135, 135, 136, 136, 136, 137, 137, 138, 138, 139, 139, 139, 140, 140, 141, 141] ++ (
   [141, 142, 142, 143, 143, 144, 144, 144, 145, 145, 146]))))))))))))

theorem defaultPulseEntries_length : defaultPulseEntries.length = 31 := rfl

theorem defaultTndEntries_length : defaultTndEntries.length = 203 := by
  simp only [defaultTndEntries, List.length_append, List.length_cons, List.length_nil]

/-- Default PULSE_LUT (R226). -/
def defaultPulseLut : Vector Byte 31 :=
  ⟨(defaultPulseEntries.map (BitVec.ofNat 8)).toArray, by rw [List.size_toArray, List.length_map, defaultPulseEntries_length]⟩

/-- Default TND_LUT (R226). -/
def defaultTndLut : Vector Byte 203 :=
  ⟨(defaultTndEntries.map (BitVec.ofNat 8)).toArray, by rw [List.size_toArray, List.length_map, defaultTndEntries_length]⟩

/-- LINEAR_MIX, OPEN with no default (R227, D35): every table is allowed. -/
opaque Config.linearMixOpen : Vector (Vector Byte 203) 31

/-- NOISE_RATE_NTSC, OPEN (R5, D21). -/
opaque Config.noiseRateNtscOpen : Vector Data 16

/-- NOISE_RATE_PAL, OPEN (R5, D21). -/
opaque Config.noiseRatePalOpen : Vector Data 16

/-- DMC_RATE_NTSC, OPEN (R5, D21). -/
opaque Config.dmcRateNtscOpen : Vector Data 16

/-- DMC_RATE_PAL, OPEN (R5, D21). -/
opaque Config.dmcRatePalOpen : Vector Data 16

/-- FRAME_US_NTSC, OPEN (R5, D23). -/
opaque Config.frameUsNtscOpen : Data

/-- FRAME_US_PAL, OPEN (R5, D23). -/
opaque Config.frameUsPalOpen : Data

/-- TICK_US less 1, OPEN (R5, D24): any of 0 to 999. -/
opaque Config.tickUsLess1Open : Fin 1000

/-- SAMPLE_RATE, OPEN and informational (R5, D36); a natural number by DESIGN CHOICE (log entry 17). -/
opaque Config.sampleRateOpen : Nat

/-- The configuration State.reset carries (DESIGN CHOICE, log entry 2): the default of R5 where R5 gives one, the opaque constant
where it says OPEN with no default. -/
def Config.platform : Config where
  dmcMode := .full
  mixMode := .lut
  stereoMode := .stereo
  pulseBlendL := defaultBlendL
  pulseBlendR := defaultBlendR
  linearMix := Config.linearMixOpen
  pulseLut := defaultPulseLut
  tndLut := defaultTndLut
  triLut := defaultTriLut
  noiseRateNtsc := Config.noiseRateNtscOpen
  noiseRatePal := Config.noiseRatePalOpen
  dmcRateNtsc := Config.dmcRateNtscOpen
  dmcRatePal := Config.dmcRatePalOpen
  frameUsNtsc := Config.frameUsNtscOpen
  frameUsPal := Config.frameUsPalOpen
  tickUs := ⟨Config.tickUsLess1Open.val + 1, by omega⟩
  sampleRate := Config.sampleRateOpen
  dmcResetClearsClock := false

/-- Test configuration TC of 95_test_vectors.md §0: values that file chose for its vectors, no defaults of the spec. -/
def Config.testVectors : Config where
  dmcMode := .full
  mixMode := .lut
  stereoMode := .stereo
  pulseBlendL := defaultBlendL
  pulseBlendR := defaultBlendR
  linearMix := Config.linearMixOpen
  pulseLut := defaultPulseLut
  tndLut := defaultTndLut
  triLut := defaultTriLut
  noiseRateNtsc := tabulate 16 fun i => 0x10000#32 >>> i
  noiseRatePal := tabulate 16 fun i => 0x8000#32 >>> i
  dmcRateNtsc := tabulate 16 fun i => 0x10000#32 >>> (15 - i)
  dmcRatePal := tabulate 16 fun i => 0x8000#32 >>> (15 - i)
  frameUsNtsc := 16639
  frameUsPal := 19997
  tickUs := ⟨45, by decide⟩
  sampleRate := Config.sampleRateOpen
  dmcResetClearsClock := false

end Sys2Proof
end

