-- ==== Sys2Proof/Syntax.lean ====
section
/-! DEFINITION. The instructions: one constructor for each row of the opcode table, with its fields pulled out of the data bits
(30_encoding.md R72, R73), the inputs of the block (R70), and the causes of an illegal command (R75). -/

namespace Sys2Proof

/-- The pulse channel c (R9): c = 0 is pulse 1, c = 1 is pulse 2. -/
inductive PulseChan where
  | pulse1
  | pulse2
  deriving DecidableEq, Repr

/-- The region (R9, R18): 0 = NTSC, 1 = PAL. -/
inductive Region where
  | ntsc
  | pal
  deriving DecidableEq, Repr

/-- One constructor for each row of spec/opcode_table.json. Every field has the exact width of R73, so no term of this type has a
reserved data bit set; a read carries no data, since its D is ignored (R71). -/
inductive Instr where
  /-- WR.PDUTY (R112). -/
  | wrPduty (c : PulseChan) (v : Byte)
  /-- WR.PVOL (R114). -/
  | wrPvol (c : PulseChan) (v : BitVec 4)
  /-- WR.PDELTA (R116). -/
  | wrPdelta (c : PulseChan) (v : BitVec 16)
  /-- WR.TGATE (R133). -/
  | wrTgate (g : Bool)
  /-- WR.TDELTA (R135). -/
  | wrTdelta (v : BitVec 16)
  /-- WR.NVOL (R154). -/
  | wrNvol (v : BitVec 4)
  /-- WR.NMODE (R156). -/
  | wrNmode (short : Bool)
  /-- WR.NSEED (R158). -/
  | wrNseed (v : BitVec 15)
  /-- WR.NDELTA (R160). -/
  | wrNdelta (v : Data)
  /-- WR.NRATE (R162). -/
  | wrNrate (idx : BitVec 4)
  /-- WR.DADDR (R183). -/
  | wrDaddr (v : Data)
  /-- WR.DLEN (R185). -/
  | wrDlen (v : BitVec 16)
  /-- WR.DCFG (R187). -/
  | wrDcfg (rate : BitVec 4) (loop : Bool) (seed : BitVec 7)
  /-- WR.DPLAY (R189). -/
  | wrDplay
  /-- WR.DKILL (R190). -/
  | wrDkill
  /-- WR.ENABLE (R221). -/
  | wrEnable (v : BitVec 5)
  /-- WR.REGION (R261). -/
  | wrRegion (r : Region)
  /-- RD.PDUTY (R113). -/
  | rdPduty (c : PulseChan)
  /-- RD.PVOL (R115). -/
  | rdPvol (c : PulseChan)
  /-- RD.PDELTA (R117). -/
  | rdPdelta (c : PulseChan)
  /-- RD.PACC (R118). -/
  | rdPacc (c : PulseChan)
  /-- RD.TGATE (R134). -/
  | rdTgate
  /-- RD.TDELTA (R136). -/
  | rdTdelta
  /-- RD.TACC (R137). -/
  | rdTacc
  /-- RD.TSAMPLE (R138). -/
  | rdTsample
  /-- RD.NVOL (R155). -/
  | rdNvol
  /-- RD.NMODE (R157). -/
  | rdNmode
  /-- RD.NSEED (R159). -/
  | rdNseed
  /-- RD.NDELTA (R161). -/
  | rdNdelta
  /-- RD.NCLK (R163). -/
  | rdNclk
  /-- RD.NCMP (R164). -/
  | rdNcmp
  /-- RD.NOUT (R165). -/
  | rdNout
  /-- RD.DADDR (R184). -/
  | rdDaddr
  /-- RD.DLEN (R186). -/
  | rdDlen
  /-- RD.DCFG (R188). -/
  | rdDcfg
  /-- RD.DOUT (R191). -/
  | rdDout
  /-- RD.DPOS (R192). -/
  | rdDpos
  /-- RD.DCLK (R193). -/
  | rdDclk
  /-- RD.DCMP (R194). -/
  | rdDcmp
  /-- RD.DDELTA (R195). -/
  | rdDdelta
  /-- RD.DCUR (R203). -/
  | rdDcur
  /-- RD.DAADDR (R204). -/
  | rdDaaddr
  /-- RD.DALEN (R205). -/
  | rdDalen
  /-- RD.ENABLE (R222). -/
  | rdEnable
  /-- RD.DACL (R230). -/
  | rdDacl
  /-- RD.DACR (R231). -/
  | rdDacr
  /-- RD.REGION (R262). -/
  | rdRegion
  /-- RD.FRAMEUS (R263). -/
  | rdFrameus
  /-- RD.MICROS (R244). -/
  | rdMicros
  /-- RD.MILLIS (R245). -/
  | rdMillis
  /-- RD.STATUS (R265). -/
  | rdStatus
  /-- TICK (R240). -/
  | tick
  /-- RESET (R330). -/
  | reset
  deriving DecidableEq, Repr

/-- One operation at the block's input ports (R2, R70): a command word on the bus, a TICK event, RESET, or RESET while a TICK is in
progress, which discards that TICK (R241, R331). -/
inductive Input where
  | command (cw : CommandWord)
  | tick
  | reset
  | resetDuringTick
  deriving DecidableEq, Repr

/-- Why a command word is illegal: the four causes of R75, with the information its "raise Illegal" names. -/
inductive Illegal where
  | undefinedAddress (a : RegAddr)
  | writeToReadOnly (a : RegAddr)
  | reservedBits (a : RegAddr) (d : Data)
  | readOfWriteOnly (a : RegAddr)
  deriving DecidableEq, Repr

end Sys2Proof
end

