-- ==== Sys2Proof/WellFormed.lean ====
section
/-! DEFINITION. What is well-formed: a configuration (00_scope.md R6) and a command word (30_encoding.md R74, R77, stated here from
the register map as data, apart from the decoder). An Instr is well-formed by its field types. -/

namespace Sys2Proof

/-- The greatest value in a table. -/
def maxEntry (l : List Byte) : Nat :=
  l.foldr (fun b m => max b.toNat m) 0

/-- R6, first check: every TRI_LUT entry is at most 15. -/
def Config.triLutOk (c : Config) : Bool :=
  c.triLut.toList.all fun b => decide (b.toNat ≤ 15)

/-- R6, third check: the greatest PULSE_LUT entry plus the greatest TND_LUT entry is at most 2^DAC_BITS - 1 = 255. -/
def Config.sumOk (c : Config) : Bool :=
  decide (maxEntry c.pulseLut.toList + maxEntry c.tndLut.toList ≤ 255)

/-- A well-formed configuration (R6). The checks on the blends, on LINEAR_MIX and on TICK_US hold by the types of those fields. -/
def Config.wf (c : Config) : Bool :=
  c.triLutOk && c.sumOk

/-- A configuration with the proof that it is well-formed. State carries one, so an ill-formed configuration has no run (R6). -/
abbrev WfConfig := { c : Config // c.wf = true }

/-- R6: a model refuses an ill-formed configuration. -/
def Config.accept (c : Config) : Option WfConfig :=
  if h : c.wf = true then some ⟨c, h⟩ else none

theorem Config.platform_wf : Config.platform.wf = true := by decide +kernel

theorem Config.testVectors_wf : Config.testVectors.wf = true := by decide +kernel

/-- The access column of R73. -/
inductive Access where
  | rw
  | ro
  | wo
  deriving DecidableEq, Repr

/-- One row of the register map of R73, with the write mask of R74 (0 for a read-only register). -/
structure RegRow where
  addr : RegAddr
  access : Access
  writeMask : Data
  deriving DecidableEq, Repr

/-- The register map of R73 by address, with the write masks of R74: PDUTY, PVOL, PDELTA, PACC for c = 0 and c = 1, then TGATE to
TSAMPLE, NVOL to NOUT, DADDR to DALEN, ENABLE, DACL, DACR, REGION, FRAMEUS, MICROS, MILLIS, STATUS. -/
def regMap : List RegRow :=
  [⟨0x00, .rw, 0x000000FF⟩, ⟨0x01, .rw, 0x0000000F⟩, ⟨0x02, .rw, 0x0000FFFF⟩, ⟨0x03, .ro, 0x00000000⟩] ++ (
   [⟨0x04, .rw, 0x000000FF⟩, ⟨0x05, .rw, 0x0000000F⟩, ⟨0x06, .rw, 0x0000FFFF⟩, ⟨0x07, .ro, 0x00000000⟩] ++ (
   [⟨0x08, .rw, 0x00000001⟩, ⟨0x09, .rw, 0x0000FFFF⟩, ⟨0x0A, .ro, 0x00000000⟩, ⟨0x0B, .ro, 0x00000000⟩] ++ (
   [⟨0x0C, .rw, 0x0000000F⟩, ⟨0x0D, .rw, 0x00000080⟩, ⟨0x0E, .rw, 0x00007FFF⟩, ⟨0x0F, .rw, 0xFFFFFFFF⟩] ++ (
   [⟨0x10, .wo, 0x0000000F⟩, ⟨0x11, .ro, 0x00000000⟩, ⟨0x12, .ro, 0x00000000⟩, ⟨0x13, .ro, 0x00000000⟩] ++ (
   [⟨0x14, .rw, 0xFFFFFFFF⟩, ⟨0x15, .rw, 0x0000FFFF⟩, ⟨0x16, .rw, 0x00007F8F⟩, ⟨0x17, .wo, 0x00000000⟩] ++ (
   [⟨0x18, .wo, 0x00000000⟩, ⟨0x19, .ro, 0x00000000⟩, ⟨0x1A, .ro, 0x00000000⟩, ⟨0x1B, .ro, 0x00000000⟩] ++ (
   [⟨0x1C, .ro, 0x00000000⟩, ⟨0x1D, .ro, 0x00000000⟩, ⟨0x1E, .ro, 0x00000000⟩, ⟨0x1F, .ro, 0x00000000⟩] ++ (
   [⟨0x20, .ro, 0x00000000⟩, ⟨0x24, .rw, 0x0000001F⟩, ⟨0x25, .ro, 0x00000000⟩, ⟨0x26, .ro, 0x00000000⟩] ++ (
   [⟨0x28, .rw, 0x00000001⟩, ⟨0x29, .ro, 0x00000000⟩, ⟨0x2C, .ro, 0x00000000⟩, ⟨0x2D, .ro, 0x00000000⟩] ++ (
   [⟨0x2E, .ro, 0x00000000⟩]))))))))))

/-- WE of a command word: CW[40] (R71). -/
def cwWrite (cw : CommandWord) : Bool :=
  cw.getLsbD 40

/-- A of a command word: CW[39:32] (R71). -/
def cwAddr (cw : CommandWord) : RegAddr :=
  cw.extractLsb' 32 8

/-- D of a command word: CW[31:0] (R71). -/
def cwData (cw : CommandWord) : Data :=
  cw.extractLsb' 0 32

/-- A command word is legal exactly when none of the four cases of R77 holds: its A is a row of the map; a write goes to no RO
register and sets no bit outside the row's mask; a read goes to no WO register. -/
def wordLegal (cw : CommandWord) : Bool :=
  match regMap.find? (fun r => r.addr == cwAddr cw) with
  | none => false
  | some r =>
    if cwWrite cw then r.access != .ro && (cwData cw &&& ~~~r.writeMask == 0#32)
    else r.access != .wo

end Sys2Proof
end

