-- ==== Sys2Proof/Decode.lean ====
section
/-! DEFINITION. The decoder of 30_encoding.md R75, total on every 41-bit word and rejecting by name, and after it the encoder, the
opcode table as data, and the host's view of a row's word. -/

namespace Sys2Proof

/-- The len bits of D from bit lo up (R72): every operand is an unsigned bit-slice of D. -/
def field (d : Data) (lo len : Nat) : BitVec len :=
  d.extractLsb' lo len

/-- Bit k of D as a Boolean (R72, R7). -/
def flag (d : Data) (k : Nat) : Bool :=
  d.getLsbD k

/-- A Boolean at bit k of a data word, every other bit 0 (R72). -/
def flagAt (b : Bool) (k : Nat) : Data :=
  (BitVec.ofBool b).setWidth 32 <<< k

/-- The pulse channel a register address names: c = A[2] (R72). -/
def chanOfAddr (a : RegAddr) : PulseChan :=
  if a.getLsbD 2 then .pulse2 else .pulse1

/-- The address of a pulse register: its base + 4c (R73). -/
def pulseAddr (base : RegAddr) : PulseChan → RegAddr
  | .pulse1 => base
  | .pulse2 => base + 4

/-- r = D[0]: 0 = NTSC, 1 = PAL (R261). -/
def regionOfBit (b : Bool) : Region :=
  if b then .pal else .ntsc

/-- The bit of a region (R9). -/
def bitOfRegion : Region → Bool
  | .ntsc => false
  | .pal => true

/-- What a row of the register map gives the decoder: for a register that may be written, its write mask and the write
instruction of a data word; for one that may be read, its read instruction (R73 to R75). -/
structure RegDecode where
  write : Option (Data × (Data → Instr))
  read : Option Instr

/-- An RW row of R73. -/
def rwReg (mask : Data) (w : Data → Instr) (r : Instr) : RegDecode :=
  ⟨some (mask, w), some r⟩

/-- An RO row of R73. -/
def roReg (r : Instr) : RegDecode :=
  ⟨none, some r⟩

/-- A WO row of R73. -/
def woReg (mask : Data) (w : Data → Instr) : RegDecode :=
  ⟨some (mask, w), none⟩

/-- The row at an address number; c is the pulse channel A[2] (R73). -/
def mapRow (c : PulseChan) (n : Nat) : Option RegDecode :=
  match n with
  | 0x00 | 0x04 => some (rwReg 0x000000FF (fun d => .wrPduty c (field d 0 8)) (.rdPduty c))
  | 0x01 | 0x05 => some (rwReg 0x0000000F (fun d => .wrPvol c (field d 0 4)) (.rdPvol c))
  | 0x02 | 0x06 => some (rwReg 0x0000FFFF (fun d => .wrPdelta c (field d 0 16)) (.rdPdelta c))
  | 0x03 | 0x07 => some (roReg (.rdPacc c))
  | 0x08 => some (rwReg 0x00000001 (fun d => .wrTgate (flag d 0)) .rdTgate)
  | 0x09 => some (rwReg 0x0000FFFF (fun d => .wrTdelta (field d 0 16)) .rdTdelta)
  | 0x0A => some (roReg .rdTacc)
  | 0x0B => some (roReg .rdTsample)
  | 0x0C => some (rwReg 0x0000000F (fun d => .wrNvol (field d 0 4)) .rdNvol)
  | 0x0D => some (rwReg 0x00000080 (fun d => .wrNmode (flag d 7)) .rdNmode)
  | 0x0E => some (rwReg 0x00007FFF (fun d => .wrNseed (field d 0 15)) .rdNseed)
  | 0x0F => some (rwReg 0xFFFFFFFF .wrNdelta .rdNdelta)
  | 0x10 => some (woReg 0x0000000F (fun d => .wrNrate (field d 0 4)))
  | 0x11 => some (roReg .rdNclk)
  | 0x12 => some (roReg .rdNcmp)
  | 0x13 => some (roReg .rdNout)
  | 0x14 => some (rwReg 0xFFFFFFFF .wrDaddr .rdDaddr)
  | 0x15 => some (rwReg 0x0000FFFF (fun d => .wrDlen (field d 0 16)) .rdDlen)
  | 0x16 => some (rwReg 0x00007F8F (fun d => .wrDcfg (field d 0 4) (flag d 7) (field d 8 7)) .rdDcfg)
  | 0x17 => some (woReg 0x00000000 (fun _ => .wrDplay))
  | 0x18 => some (woReg 0x00000000 (fun _ => .wrDkill))
  | 0x19 => some (roReg .rdDout)
  | 0x1A => some (roReg .rdDpos)
  | 0x1B => some (roReg .rdDclk)
  | 0x1C => some (roReg .rdDcmp)
  | 0x1D => some (roReg .rdDdelta)
  | 0x1E => some (roReg .rdDcur)
  | 0x1F => some (roReg .rdDaaddr)
  | 0x20 => some (roReg .rdDalen)
  | 0x24 => some (rwReg 0x0000001F (fun d => .wrEnable (field d 0 5)) .rdEnable)
  | 0x25 => some (roReg .rdDacl)
  | 0x26 => some (roReg .rdDacr)
  | 0x28 => some (rwReg 0x00000001 (fun d => .wrRegion (regionOfBit (flag d 0))) .rdRegion)
  | 0x29 => some (roReg .rdFrameus)
  | 0x2C => some (roReg .rdMicros)
  | 0x2D => some (roReg .rdMillis)
  | 0x2E => some (roReg .rdStatus)
  | _ => none

/-- MAP(A) of R75. -/
def mapAddr (a : RegAddr) : Option RegDecode :=
  mapRow (chanOfAddr a) a.toNat

/-- Decode of R75, on the parts of a command word. -/
def decodeParts (we : Bool) (a : RegAddr) (d : Data) : Except Illegal Instr :=
  match mapAddr a with
  | none => .error (.undefinedAddress a)
  | some e =>
    if we then
      match e.write with
      | none => .error (.writeToReadOnly a)
      | some (mask, build) =>
        if d &&& ~~~mask = 0 then .ok (build d) else .error (.reservedBits a d)
    else
      match e.read with
      | none => .error (.readOfWriteOnly a)
      | some i => .ok i

/-- Decode(CW) of R75. -/
def decode (cw : CommandWord) : Except Illegal Instr :=
  decodeParts (cwWrite cw) (cwAddr cw) (cwData cw)

/-- The instruction of an input: a command word is decoded; TICK and RESET are events beside the words (R76). A RESET
during a TICK discards the TICK's partial effects and leaves the reset state (R241), so it is the RESET alone. -/
def decodeInput : Input → Except Illegal Instr
  | .command cw => decode cw
  | .tick => .ok .tick
  | .reset => .ok .reset
  | .resetDuringTick => .ok .reset

/-- Whether an input is a read transaction, which returns RD (R71, R75). -/
def inputIsRead : Input → Bool
  | .command cw => !cwWrite cw
  | .tick => false
  | .reset => false
  | .resetDuringTick => false

/-- The command word of a write: WE = 1 (R71). -/
def writeWord (a : RegAddr) (d : Data) : CommandWord :=
  1#1 ++ a ++ d

/-- The command word of a read: WE = 0; D is ignored, and the spec writes it as 0 (R71). -/
def readWord (a : RegAddr) (d : Data) : CommandWord :=
  0#1 ++ a ++ d

/-- The input that asks for an instruction, from the encodings of R71 to R73. -/
def encode : Instr → Input
  | .wrPduty c v => .command (writeWord (pulseAddr 0x00 c) (v.setWidth 32))
  | .wrPvol c v => .command (writeWord (pulseAddr 0x01 c) (v.setWidth 32))
  | .wrPdelta c v => .command (writeWord (pulseAddr 0x02 c) (v.setWidth 32))
  | .wrTgate g => .command (writeWord 0x08 (flagAt g 0))
  | .wrTdelta v => .command (writeWord 0x09 (v.setWidth 32))
  | .wrNvol v => .command (writeWord 0x0C (v.setWidth 32))
  | .wrNmode short => .command (writeWord 0x0D (flagAt short 7))
  | .wrNseed v => .command (writeWord 0x0E (v.setWidth 32))
  | .wrNdelta v => .command (writeWord 0x0F v)
  | .wrNrate idx => .command (writeWord 0x10 (idx.setWidth 32))
  | .wrDaddr v => .command (writeWord 0x14 v)
  | .wrDlen v => .command (writeWord 0x15 (v.setWidth 32))
  | .wrDcfg rate loop seed => .command (writeWord 0x16 ((seed.setWidth 32 <<< 8) ||| flagAt loop 7 ||| rate.setWidth 32))
  | .wrDplay => .command (writeWord 0x17 0)
  | .wrDkill => .command (writeWord 0x18 0)
  | .wrEnable v => .command (writeWord 0x24 (v.setWidth 32))
  | .wrRegion r => .command (writeWord 0x28 (flagAt (bitOfRegion r) 0))
  | .rdPduty c => .command (readWord (pulseAddr 0x00 c) 0)
  | .rdPvol c => .command (readWord (pulseAddr 0x01 c) 0)
  | .rdPdelta c => .command (readWord (pulseAddr 0x02 c) 0)
  | .rdPacc c => .command (readWord (pulseAddr 0x03 c) 0)
  | .rdTgate => .command (readWord 0x08 0)
  | .rdTdelta => .command (readWord 0x09 0)
  | .rdTacc => .command (readWord 0x0A 0)
  | .rdTsample => .command (readWord 0x0B 0)
  | .rdNvol => .command (readWord 0x0C 0)
  | .rdNmode => .command (readWord 0x0D 0)
  | .rdNseed => .command (readWord 0x0E 0)
  | .rdNdelta => .command (readWord 0x0F 0)
  | .rdNclk => .command (readWord 0x11 0)
  | .rdNcmp => .command (readWord 0x12 0)
  | .rdNout => .command (readWord 0x13 0)
  | .rdDaddr => .command (readWord 0x14 0)
  | .rdDlen => .command (readWord 0x15 0)
  | .rdDcfg => .command (readWord 0x16 0)
  | .rdDout => .command (readWord 0x19 0)
  | .rdDpos => .command (readWord 0x1A 0)
  | .rdDclk => .command (readWord 0x1B 0)
  | .rdDcmp => .command (readWord 0x1C 0)
  | .rdDdelta => .command (readWord 0x1D 0)
  | .rdDcur => .command (readWord 0x1E 0)
  | .rdDaaddr => .command (readWord 0x1F 0)
  | .rdDalen => .command (readWord 0x20 0)
  | .rdEnable => .command (readWord 0x24 0)
  | .rdDacl => .command (readWord 0x25 0)
  | .rdDacr => .command (readWord 0x26 0)
  | .rdRegion => .command (readWord 0x28 0)
  | .rdFrameus => .command (readWord 0x29 0)
  | .rdMicros => .command (readWord 0x2C 0)
  | .rdMillis => .command (readWord 0x2D 0)
  | .rdStatus => .command (readWord 0x2E 0)
  | .tick => .tick
  | .reset => .reset

/-- The (match, mask) pairs of spec/opcode_table.json, in its order: 17 writes and 34 reads. TICK and RESET have none (R76). -/
def opcodeTable : List (CommandWord × CommandWord) :=
  [(0x10000000000, 0x1FBFFFFFF00), (0x10100000000, 0x1FBFFFFFFF0), (0x10200000000, 0x1FBFFFF0000), (0x10800000000, 0x1FFFFFFFFFE)] ++ (
   [(0x10900000000, 0x1FFFFFF0000), (0x10C00000000, 0x1FFFFFFFFF0), (0x10D00000000, 0x1FFFFFFFF7F), (0x10E00000000, 0x1FFFFFF8000)] ++ (
   [(0x10F00000000, 0x1FF00000000), (0x11000000000, 0x1FFFFFFFFF0), (0x11400000000, 0x1FF00000000), (0x11500000000, 0x1FFFFFF0000)] ++ (
   [(0x11600000000, 0x1FFFFFF8070), (0x11700000000, 0x1FFFFFFFFFF), (0x11800000000, 0x1FFFFFFFFFF), (0x12400000000, 0x1FFFFFFFFE0)] ++ (
   [(0x12800000000, 0x1FFFFFFFFFE), (0x00000000000, 0x1FB00000000), (0x00100000000, 0x1FB00000000), (0x00200000000, 0x1FB00000000)] ++ (
   [(0x00300000000, 0x1FB00000000), (0x00800000000, 0x1FF00000000), (0x00900000000, 0x1FF00000000), (0x00A00000000, 0x1FF00000000)] ++ (
   [(0x00B00000000, 0x1FF00000000), (0x00C00000000, 0x1FF00000000), (0x00D00000000, 0x1FF00000000), (0x00E00000000, 0x1FF00000000)] ++ (
   [(0x00F00000000, 0x1FF00000000), (0x01100000000, 0x1FF00000000), (0x01200000000, 0x1FF00000000), (0x01300000000, 0x1FF00000000)] ++ (
   [(0x01400000000, 0x1FF00000000), (0x01500000000, 0x1FF00000000), (0x01600000000, 0x1FF00000000), (0x01900000000, 0x1FF00000000)] ++ (
   [(0x01A00000000, 0x1FF00000000), (0x01B00000000, 0x1FF00000000), (0x01C00000000, 0x1FF00000000), (0x01D00000000, 0x1FF00000000)] ++ (
   [(0x01E00000000, 0x1FF00000000), (0x01F00000000, 0x1FF00000000), (0x02000000000, 0x1FF00000000), (0x02400000000, 0x1FF00000000)] ++ (
   [(0x02500000000, 0x1FF00000000), (0x02600000000, 0x1FF00000000), (0x02800000000, 0x1FF00000000), (0x02900000000, 0x1FF00000000)] ++ (
   [(0x02C00000000, 0x1FF00000000), (0x02D00000000, 0x1FF00000000), (0x02E00000000, 0x1FF00000000)]))))))))))))

/-- The instruction the decoder reads from a row's word, numbered as the opcode table numbers it: one 41-bit word, bit 0 least
significant. A command word has no bit above 40, and an event's row (no bits) is no command word (log entry 11). -/
def decodeTableWord (nbits w : Nat) : Option Instr :=
  let v := w % 2 ^ nbits
  if nbits = 0 ∨ 2 ^ 41 ≤ v then none
  else
    match decode (BitVec.ofNat 41 v) with
    | .ok i => some i
    | .error _ => none

end Sys2Proof
end

