-- ==== Sys2Proof/Machine/State.lean ====
section
/-! DEFINITION. The state of the block as plain data: the architectural state of 10_state.md R12 to R20, and beside it what step needs
and R10 does not count as state (the configuration, the sample memory, the ports). State.reset is 70_reset_and_hazards.md R330. -/

namespace Sys2Proof.Machine

/-- One pulse channel (R12). -/
structure Pulse where
  acc : BitVec 16
  delta : BitVec 16
  duty : BitVec 8
  vol : BitVec 4
  deriving DecidableEq, Repr

/-- The triangle channel (R13). -/
structure Tri where
  acc : BitVec 16
  delta : BitVec 16
  gate : Bool
  sample : BitVec 8
  deriving DecidableEq, Repr

/-- A 32-bit bit clock with its comparison word and its increment (R14, R15, R102): bitClock, cmpBitClock, bitClockDelta. -/
structure BitClock where
  clk : BitVec 32
  cmp : BitVec 16
  delta : BitVec 32
  deriving DecidableEq, Repr

/-- The noise channel (R14): noise.clk, noise.cmp and noise.delta are clock's fields. -/
structure Noise where
  clock : BitClock
  short : Bool
  seed : BitVec 15
  vol : BitVec 4
  bit : BitVec 1
  deriving DecidableEq, Repr

/-- The active DMC stream (R15): dmc.clk, dmc.cmp and dmc.delta are clock's fields. -/
structure Dmc where
  clock : BitClock
  offset : BitVec 16
  bitOffset : BitVec 3
  cur : BitVec 8
  addr : BitVec 32
  len : BitVec 16
  loop : Bool
  out : BitVec 7
  deriving DecidableEq, Repr

/-- The DMC staging registers (R16): dmc.sAddr, sLen, sRate, sLoop, sSeed. -/
structure DmcStage where
  addr : BitVec 32
  len : BitVec 16
  rate : BitVec 4
  loop : Bool
  seed : BitVec 7
  deriving DecidableEq, Repr

/-- The fault status (R20, R303). -/
structure Status where
  ill : Bool
  dmcf : Bool
  deriving DecidableEq, Repr

/-- What the block puts on its ports (R70): the data a read returns, a DacWrite event (R229), a RegionLog event (R261). -/
inductive Output where
  | readData (rd : Data)
  | dacWrite (l r : Byte)
  | regionLog (r : Region)
  deriving DecidableEq, Repr

/-- The sample memory SampleMem (R5, R51): (address, byte) cells with strictly rising addresses; at an unlisted address no memory
answers. -/
abbrev Memory := List Host.Cell

/-- What an address that is not listed reads as: `none`, no memory answers there (R51; log entry 3). -/
def unlisted : Option Byte :=
  none

/-- The canonical form: every address is a 32-bit one and above floor, and addresses strictly rise. -/
def memoryWfAbove (floor : Nat) : Memory → Bool
  | [] => true
  | (a, _) :: rest => decide (floor ≤ a) && decide (a < 2 ^ 32) && memoryWfAbove (a + 1) rest

/-- The canonical form of a sample memory. -/
def Memory.wf (m : Memory) : Bool :=
  memoryWfAbove 0 m

/-- The state. The first block of fields is the architectural state, exactly (R10); the last four are the model's carriers:
cfg and sampleMem are the configuration (R5; log entries 1 to 3), inputs the operations still to come, oldest first (R58; log
entry 4), outputs what the ports have shown, newest first (R70; log entry 6). -/
structure State where
  pulse1 : Pulse
  pulse2 : Pulse
  tri : Tri
  noise : Noise
  dmc : Dmc
  stage : DmcStage
  enable : BitVec 5
  dacL : BitVec 8
  dacR : BitVec 8
  region : Region
  micros : BitVec 32
  millis : BitVec 32
  msFrac : BitVec 10
  status : Status
  cfg : WfConfig
  sampleMem : Memory
  inputs : List Input
  outputs : List Output
  deriving DecidableEq, Repr

/-- Why the machine stops with a fault. -/
inductive Fault where
  /-- Raised by TICK when the tnd index of R223 is above 202, outside TND_LUT. R228 excludes it in every state in which
  tri.sample is at most 15 (R25), so no run from reset meets it. Safe: the model stops where the spec gives no table entry. -/
  | tndIndexOutOfRange
  deriving DecidableEq, Repr

/-- Why the model refuses an instruction. -/
inductive Refusal where
  /-- Raised by a refused arm of exec, for an instruction without a meaning. Safe: nothing is claimed of it. No arm uses it. -/
  | notModelled (mnemonic : String)
  deriving DecidableEq, Repr

/-- The answer of an instruction and of a step. -/
abbrev Result := Host.Outcome State Fault Refusal

/-- The state right after RESET (R330), with the platform's configuration and nothing on the ports (log entries 2 to 6). -/
def State.reset : State where
  pulse1 := { acc := 0, delta := 0, duty := 0, vol := 0 }
  pulse2 := { acc := 0, delta := 0, duty := 0, vol := 0 }
  tri := { acc := 0, delta := 0, gate := false, sample := 0 }
  noise :=
    { clock := { clk := 0, cmp := 0, delta := 0 }, short := false, seed := 1, vol := 0, bit := 0 }
  dmc :=
    { clock := { clk := 0, cmp := 0, delta := 0 }, offset := 0, bitOffset := 0, cur := 0, addr := 0, len := 0,
      loop := false, out := 0 }
  stage := { addr := 0, len := 0, rate := 0, loop := false, seed := 0 }
  enable := 0b11111
  dacL := 0
  dacR := 0
  region := .ntsc
  micros := 0
  millis := 0
  msFrac := 0
  status := { ill := false, dmcf := false }
  cfg := ⟨Config.platform, Config.platform_wf⟩
  sampleMem := []
  inputs := []
  outputs := []

end Sys2Proof.Machine
end

