-- ==== Sys2Proof/Machine/Flags.lean ====
section
/-! DEFINITION. The fault status of 10_state.md R20 and 60_exceptions.md R303: setting its sticky bits and reading it. The block has
no arithmetic condition codes (R22). -/

namespace Sys2Proof.Machine

/-- STATUS.ILL ← 1 (R301). -/
def Status.setIll (t : Status) : Status :=
  { t with ill := true }

/-- STATUS.DMCF ← 1 (R302). -/
def Status.setDmcf (t : Status) : Status :=
  { t with dmcf := true }

/-- The STATUS word a read returns: D[0] ILL, D[1] DMCF (R73, R265). -/
def statusWord (t : Status) : Data :=
  flagAt t.dmcf 1 ||| flagAt t.ill 0

end Sys2Proof.Machine
end

