-- ==== Sys2Proof/Machine/Operands.lean ====
section
/-! DEFINITION. Operand assembly on the read side (30_encoding.md R72, R73): how a register's fields stand in RD; and the rate and
frame tables a region selects (00_scope.md R9). The write side is the decoder's. -/

namespace Sys2Proof.Machine

/-- A field at bit 0 of RD, every other bit 0 (R72). -/
def zext32 {w : Nat} (v : BitVec w) : Data :=
  v.setWidth 32

/-- DCFG: D[3:0] rate, D[7] loop, D[14:8] seed (R188). -/
def dcfgWord (g : DmcStage) : Data :=
  (zext32 g.seed <<< 8) ||| flagAt g.loop 7 ||| zext32 g.rate

/-- DPOS: D[15:0] offset, D[18:16] bitOffset (R192). -/
def dposWord (d : Dmc) : Data :=
  (zext32 d.bitOffset <<< 16) ||| zext32 d.offset

/-- DALEN: D[15:0] len, D[16] loop (R205). -/
def dalenWord (d : Dmc) : Data :=
  flagAt d.loop 16 ||| zext32 d.len

/-- NOISE_RATE[region][i] (R9, R162). -/
def noiseRate (c : Config) (r : Region) (i : BitVec 4) : Data :=
  match r with
  | .ntsc => c.noiseRateNtsc[i.toNat]
  | .pal => c.noiseRatePal[i.toNat]

/-- DMC_RATE[region][i] (R9, R189). -/
def dmcRate (c : Config) (r : Region) (i : BitVec 4) : Data :=
  match r with
  | .ntsc => c.dmcRateNtsc[i.toNat]
  | .pal => c.dmcRatePal[i.toNat]

/-- FRAME_US[region] (R9, R263). -/
def frameUs (c : Config) (r : Region) : Data :=
  match r with
  | .ntsc => c.frameUsNtsc
  | .pal => c.frameUsPal

end Sys2Proof.Machine
end

