-- ==== Sys2Proof/Machine/Ops.lean ====
section
/-! DEFINITION. The named operations over the state that the instructions share: the sample memory (20_memory.md R50 to R53), the
ports (30_encoding.md R70), accumulators and bit clocks (40_phase_clock.md), and the two recorded faults, which are all this
block has in place of exceptions (60_exceptions.md R300 to R303). -/

namespace Sys2Proof.Machine

/-- MemRead(addr, 1) (R51). -/
def memRead (m : Memory) (addr : BitVec 32) : Option Byte :=
  match m with
  | [] => unlisted
  | (a, b) :: rest => if a = addr.toNat then some b else memRead rest addr

/-- The platform's placing of one byte of sample memory before a run (R332, R338). The block itself never writes memory (R53). -/
def memPlace (m : Memory) (addr : BitVec 32) (b : Byte) : Memory :=
  match m with
  | [] => [(addr.toNat, b)]
  | (a, x) :: rest =>
    if addr.toNat < a then (addr.toNat, b) :: (a, x) :: rest
    else if addr.toNat = a then (a, b) :: rest
    else (a, x) :: memPlace rest addr b

/-- Puts one output on the ports (R70). -/
def State.output (s : State) (o : Output) : State :=
  { s with outputs := o :: s.outputs }

/-- RD ← v: a read returns v and changes nothing else (R56). -/
def State.returnRead (s : State) (v : Data) : State :=
  s.output (.readData v)

/-- raise Illegal (R75, R301): STATUS.ILL ← 1; a read returns RD = 0; nothing else changes. -/
def State.raiseIllegal (s : State) (isRead : Bool) : State :=
  let t := { s with status := s.status.setIll }
  if isRead then t.returnRead 0 else t

/-- Pulse channel c (R9, R12). -/
def State.pulse (s : State) : PulseChan → Pulse
  | .pulse1 => s.pulse1
  | .pulse2 => s.pulse2

/-- Replaces pulse channel c. -/
def State.setPulse (s : State) (c : PulseChan) (p : Pulse) : State :=
  match c with
  | .pulse1 => { s with pulse1 := p }
  | .pulse2 => { s with pulse2 := p }

/-- Accumulator advance with unsigned wraparound (R100). -/
def advance {w : Nat} (acc delta : BitVec w) : BitVec w :=
  acc + delta

/-- The phase value of a 16-bit accumulator: acc[15:8] (R101). -/
def phase (acc : BitVec 16) : BitVec 8 :=
  acc.extractLsb' 8 8

/-- The comparison word of a bit clock: clk[31:16] (R101). -/
def compareWord (clk : BitVec 32) : BitVec 16 :=
  clk.extractLsb' 16 16

/-- BitClockStep (R102, R103): the clock after one tick, and whether the tick is an effective clock. -/
def bitClockStep (k : BitClock) : BitClock × Bool :=
  let clk := advance k.clk k.delta
  if compareWord clk ≠ k.cmp then ({ k with clk := clk, cmp := compareWord clk }, true)
  else ({ k with clk := clk }, false)

/-- DmcReset (R181). -/
def dmcReset (c : Config) (d : Dmc) : Dmc :=
  { d with
    offset := 0
    bitOffset := 0
    clock := if c.dmcResetClearsClock then { d.clock with clk := 0, cmp := 0 } else d.clock }

/-- dmc.delta ← v. -/
def Dmc.setDelta (d : Dmc) (v : BitVec 32) : Dmc :=
  { d with clock := { d.clock with delta := v } }

/-- DmcReset(); dmc.delta ← 0: how WR.DKILL and a fetch fault stop the stream (R190, R201). -/
def dmcStop (c : Config) (d : Dmc) : Dmc :=
  (dmcReset c d).setDelta 0

/-- raise DmcFetchFault (R201, R302): STATUS.DMCF ← 1 and the stream stops; out and cur are kept. -/
def State.raiseDmcFetchFault (s : State) : State :=
  { s with status := s.status.setDmcf, dmc := dmcStop s.cfg.val s.dmc }

end Sys2Proof.Machine
end

