-- ==== Sys2Proof/Machine/Dmc.lean ====
section
/-! DEFINITION. The delta modulation channel: the tick step, the output and the commands of 44_dmc.md (90_conflicts.md C2). -/

namespace Sys2Proof.Machine

/-- STEP: bits for each effective clock (R180). -/
def dmcBits (m : DmcMode) : Nat :=
  match m with
  | .full => 1
  | .half => 2

/-- LAST: the last bit position of a byte (R180). -/
def dmcLast (m : DmcMode) : BitVec 3 :=
  match m with
  | .full => 7
  | .half => 6

/-- DMAP: the delta of the bits taken (R180), FULL on one bit and HALF on two. -/
def dmap (m : DmcMode) (bits : Nat) : Int :=
  match m with
  | .full => if bits = 1 then 2 else -2
  | .half => if bits = 3 then 4 else if bits = 0 then -4 else 0

/-- The byte of this effective clock (R196): fetched when bitOffset is 0, else the byte held; `none` when no memory answers. -/
def dmcFetch (m : Memory) (d : Dmc) : Option Byte :=
  if d.bitOffset = 0 then memRead m (d.addr + d.offset.setWidth 32) else some d.cur

/-- bits (R196): STEP bits of cur from position bitOffset up, least significant first. -/
def dmcTake (m : DmcMode) (d : Dmc) : Nat :=
  (d.cur.toNat >>> d.bitOffset.toNat) &&& ((1 <<< dmcBits m) - 1)

/-- The running total, 8-bit unsigned, clamped (R197). -/
def dmcClamp (out : BitVec 7) (delta : Int) : BitVec 7 :=
  let t : BitVec 8 := out.setWidth 8 + BitVec.ofInt 8 delta
  if 200 < t.toNat then 0 else BitVec.ofNat 7 (min t.toNat 127)

/-- R197 on the channel, with the delta of R196. -/
def dmcApply (m : DmcMode) (d : Dmc) : Dmc :=
  { d with out := dmcClamp d.out (dmap m (dmcTake m d)) }

/-- The end-of-stream step (R198): the position wraps to 0, and a stream that does not loop stops. -/
def dmcEnd (c : Config) (d : Dmc) : Dmc :=
  if d.loop then dmcReset c d else dmcStop c d

/-- The advance of the stream position (R198). -/
def dmcAdvance (c : Config) (d : Dmc) : Dmc :=
  if d.bitOffset = dmcLast c.dmcMode then
    let e := { d with bitOffset := 0, offset := d.offset + 1 }
    if e.offset = e.len then dmcEnd c e else e
  else { d with bitOffset := d.bitOffset + BitVec.ofNat 3 (dmcBits c.dmcMode) }

/-- What an effective clock does once it has its byte b (R196 to R198). -/
def dmcConsume (c : Config) (d : Dmc) (b : Byte) : Dmc :=
  dmcAdvance c (dmcApply c.dmcMode { d with cur := b })

/-- DmcClock (R182, R196 to R198): the channel after an effective clock, and whether its fetch found no memory (R196 ends there,
with the channel as it was). -/
def dmcClock (c : Config) (m : Memory) (d : Dmc) : Dmc × Bool :=
  match dmcFetch m d with
  | none => (d, true)
  | some b => (dmcConsume c d b, false)

/-- DmcStep on the channel (R182). -/
def dmcStep (c : Config) (m : Memory) (d : Dmc) : Dmc × Bool :=
  let (k, effective) := bitClockStep d.clock
  let e := { d with clock := k }
  if effective then dmcClock c m e else (e, false)

/-- The state with the channel's new value, and the fetch fault raised when the fetch found no memory (R201). -/
def State.settleDmc (s : State) (r : Dmc × Bool) : State :=
  let t := { s with dmc := r.1 }
  if r.2 then t.raiseDmcFetchFault else t

/-- DmcStep on the state (R240, stage 1). -/
def tickDmc (s : State) : State :=
  s.settleDmc (dmcStep s.cfg.val s.sampleMem s.dmc)

/-- dmcOut (R200): the level is fed to the mixer whether or not the channel plays. -/
def dmcOut (d : Dmc) : BitVec 7 :=
  d.out

/-- WR.DADDR v (R183). -/
def execWrDaddr (v : Data) (s : State) : Result :=
  .next { s with stage := { s.stage with addr := v } }

/-- WR.DLEN v (R185). -/
def execWrDlen (v : BitVec 16) (s : State) : Result :=
  .next { s with stage := { s.stage with len := v } }

/-- WR.DCFG (R187). -/
def execWrDcfg (rate : BitVec 4) (loop : Bool) (seed : BitVec 7) (s : State) : Result :=
  .next { s with stage := { s.stage with rate := rate, loop := loop, seed := seed } }

/-- The play group copied whole from staging, with the rate looked up now (R189). -/
def dmcLoad (c : Config) (r : Region) (g : DmcStage) (d : Dmc) : Dmc :=
  { d with addr := g.addr, len := g.len, loop := g.loop, out := g.seed }.setDelta (dmcRate c r g.rate)

/-- WR.DPLAY (R189). -/
def execWrDplay (s : State) : Result :=
  .next { s with dmc := dmcReset s.cfg.val (dmcLoad s.cfg.val s.region s.stage s.dmc) }

/-- WR.DKILL (R190). -/
def execWrDkill (s : State) : Result :=
  .next { s with dmc := dmcStop s.cfg.val s.dmc }

/-- RD.DADDR (R184). -/
def execRdDaddr (s : State) : Result :=
  .next (s.returnRead s.stage.addr)

/-- RD.DLEN (R186). -/
def execRdDlen (s : State) : Result :=
  .next (s.returnRead (zext32 s.stage.len))

/-- RD.DCFG (R188). -/
def execRdDcfg (s : State) : Result :=
  .next (s.returnRead (dcfgWord s.stage))

/-- RD.DOUT (R191). -/
def execRdDout (s : State) : Result :=
  .next (s.returnRead (zext32 s.dmc.out))

/-- RD.DPOS (R192). -/
def execRdDpos (s : State) : Result :=
  .next (s.returnRead (dposWord s.dmc))

/-- RD.DCLK (R193). -/
def execRdDclk (s : State) : Result :=
  .next (s.returnRead s.dmc.clock.clk)

/-- RD.DCMP (R194). -/
def execRdDcmp (s : State) : Result :=
  .next (s.returnRead (zext32 s.dmc.clock.cmp))

/-- RD.DDELTA (R195). -/
def execRdDdelta (s : State) : Result :=
  .next (s.returnRead s.dmc.clock.delta)

/-- RD.DCUR (R203). -/
def execRdDcur (s : State) : Result :=
  .next (s.returnRead (zext32 s.dmc.cur))

/-- RD.DAADDR (R204). -/
def execRdDaaddr (s : State) : Result :=
  .next (s.returnRead s.dmc.addr)

/-- RD.DALEN (R205). -/
def execRdDalen (s : State) : Result :=
  .next (s.returnRead (dalenWord s.dmc))

end Sys2Proof.Machine
end

