-- ==== Sys2Proof/Machine/Noise.lean ====
section
/-! DEFINITION. The noise channel: the LFSR's tick step, the output and the commands of 43_noise.md (90_conflicts.md C1). -/

namespace Sys2Proof.Machine

/-- The feedback tap of the mode: 6 in short mode, 1 in long mode (R151). -/
def lfsrTap (short : Bool) : Nat :=
  if short then 6 else 1

/-- LfsrShift (R151): the bit shifted out is held, and its XOR with the tap bit enters at the top. -/
def lfsrShift (n : Noise) : Noise :=
  let b := n.seed.extractLsb' 0 1
  let fb := b ^^^ n.seed.extractLsb' (lfsrTap n.short) 1
  { n with seed := fb ++ n.seed.extractLsb' 1 14, bit := b }

/-- NoiseStep (R150). -/
def noiseStep (n : Noise) : Noise :=
  let (k, effective) := bitClockStep n.clock
  let m := { n with clock := k }
  if effective then lfsrShift m else m

/-- noiseOut = bit · vol (R152), with no inversion. -/
def noiseOut (n : Noise) : BitVec 4 :=
  if n.bit = 1 then n.vol else 0

/-- NoiseStep on the state (R240, stage 1). -/
def tickNoise (s : State) : State :=
  { s with noise := noiseStep s.noise }

/-- noise.delta ← v. -/
def Noise.setDelta (n : Noise) (v : BitVec 32) : Noise :=
  { n with clock := { n.clock with delta := v } }

/-- WR.NVOL v (R154). -/
def execWrNvol (v : BitVec 4) (s : State) : Result :=
  .next { s with noise := { s.noise with vol := v } }

/-- WR.NMODE (R156). -/
def execWrNmode (short : Bool) (s : State) : Result :=
  .next { s with noise := { s.noise with short := short } }

/-- WR.NSEED v (R158): 0 is accepted. -/
def execWrNseed (v : BitVec 15) (s : State) : Result :=
  .next { s with noise := { s.noise with seed := v } }

/-- WR.NDELTA v (R160). -/
def execWrNdelta (v : Data) (s : State) : Result :=
  .next { s with noise := s.noise.setDelta v }

/-- WR.NRATE i (R162): the table is looked up now, in the region that holds now. -/
def execWrNrate (idx : BitVec 4) (s : State) : Result :=
  .next { s with noise := s.noise.setDelta (noiseRate s.cfg.val s.region idx) }

/-- RD.NVOL (R155). -/
def execRdNvol (s : State) : Result :=
  .next (s.returnRead (zext32 s.noise.vol))

/-- RD.NMODE (R157): short mode at bit 7. -/
def execRdNmode (s : State) : Result :=
  .next (s.returnRead (flagAt s.noise.short 7))

/-- RD.NSEED (R159). -/
def execRdNseed (s : State) : Result :=
  .next (s.returnRead (zext32 s.noise.seed))

/-- RD.NDELTA (R161). -/
def execRdNdelta (s : State) : Result :=
  .next (s.returnRead s.noise.clock.delta)

/-- RD.NCLK (R163). -/
def execRdNclk (s : State) : Result :=
  .next (s.returnRead s.noise.clock.clk)

/-- RD.NCMP (R164). -/
def execRdNcmp (s : State) : Result :=
  .next (s.returnRead (zext32 s.noise.clock.cmp))

/-- RD.NOUT (R165). -/
def execRdNout (s : State) : Result :=
  .next (s.returnRead (zext32 s.noise.bit))

end Sys2Proof.Machine
end

