-- ==== Sys2Proof/Machine/Pulse.lean ====
section
/-! DEFINITION. The pulse channels: the tick step, the output and the commands of 41_pulse.md. -/

namespace Sys2Proof.Machine

/-- PulseStep (R110). -/
def pulseStep (p : Pulse) : Pulse :=
  { p with acc := advance p.acc p.delta }

/-- pulseOut (R111): vol while the phase value is below duty, else 0. -/
def pulseOut (p : Pulse) : BitVec 4 :=
  if phase p.acc < p.duty then p.vol else 0

/-- PulseStep(c) on the state (R240, stage 1). -/
def tickPulse (c : PulseChan) (s : State) : State :=
  s.setPulse c (pulseStep (s.pulse c))

/-- WR.PDUTY c, v (R112). -/
def execWrPduty (c : PulseChan) (v : Byte) (s : State) : Result :=
  .next (s.setPulse c { s.pulse c with duty := v })

/-- WR.PVOL c, v (R114). -/
def execWrPvol (c : PulseChan) (v : BitVec 4) (s : State) : Result :=
  .next (s.setPulse c { s.pulse c with vol := v })

/-- WR.PDELTA c, v (R116). -/
def execWrPdelta (c : PulseChan) (v : BitVec 16) (s : State) : Result :=
  .next (s.setPulse c { s.pulse c with delta := v })

/-- RD.PDUTY c (R113). -/
def execRdPduty (c : PulseChan) (s : State) : Result :=
  .next (s.returnRead (zext32 (s.pulse c).duty))

/-- RD.PVOL c (R115). -/
def execRdPvol (c : PulseChan) (s : State) : Result :=
  .next (s.returnRead (zext32 (s.pulse c).vol))

/-- RD.PDELTA c (R117). -/
def execRdPdelta (c : PulseChan) (s : State) : Result :=
  .next (s.returnRead (zext32 (s.pulse c).delta))

/-- RD.PACC c (R118). -/
def execRdPacc (c : PulseChan) (s : State) : Result :=
  .next (s.returnRead (zext32 (s.pulse c).acc))

end Sys2Proof.Machine
end

