-- ==== Sys2Proof/Machine/Triangle.lean ====
section
/-! DEFINITION. The triangle channel: the tick step, the output and the commands of 42_triangle.md. -/

namespace Sys2Proof.Machine

/-- TriStep (R130): while gated, read the table at the phase value and then advance (90_conflicts.md C3); while ungated, the
accumulator is frozen and the sample decays by 1 to 0. -/
def triStep (c : Config) (t : Tri) : Tri :=
  if t.gate then
    { t with sample := c.triLut[(phase t.acc).toNat], acc := advance t.acc t.delta }
  else if 0 < t.sample.toNat then { t with sample := t.sample - 1 }
  else t

/-- triOut (R132). -/
def triOut (t : Tri) : BitVec 8 :=
  t.sample

/-- TriStep on the state (R240, stage 1). -/
def tickTri (s : State) : State :=
  { s with tri := triStep s.cfg.val s.tri }

/-- WR.TGATE g (R133): only a change from 0 to 1 forces the accumulator to its midpoint. -/
def execWrTgate (g : Bool) (s : State) : Result :=
  .next { s with tri := { s.tri with gate := g, acc := if g && !s.tri.gate then 0x8000 else s.tri.acc } }

/-- WR.TDELTA v (R135). -/
def execWrTdelta (v : BitVec 16) (s : State) : Result :=
  .next { s with tri := { s.tri with delta := v } }

/-- RD.TGATE (R134). -/
def execRdTgate (s : State) : Result :=
  .next (s.returnRead (flagAt s.tri.gate 0))

/-- RD.TDELTA (R136). -/
def execRdTdelta (s : State) : Result :=
  .next (s.returnRead (zext32 s.tri.delta))

/-- RD.TACC (R137). -/
def execRdTacc (s : State) : Result :=
  .next (s.returnRead (zext32 s.tri.acc))

/-- RD.TSAMPLE (R138). -/
def execRdTsample (s : State) : Result :=
  .next (s.returnRead (zext32 s.tri.sample))

end Sys2Proof.Machine
end

