-- ==== Sys2Proof/Machine/Mixer.lean ====
section
/-! DEFINITION. The mixer, the DAC write and their commands: 45_mixer.md. -/

namespace Sys2Proof.Machine

/-- A channel level gated by enable[k] (R220). -/
def gated {w : Nat} (e : BitVec 5) (k : Nat) (level : BitVec w) : BitVec w :=
  if e.getLsbD k then level else 0

/-- The level of a pulse channel into the mixer: p1 or p2 of R220. -/
def pulseLevel (s : State) (c : PulseChan) : BitVec 4 :=
  match c with
  | .pulse1 => gated s.enable 0 (pulseOut s.pulse1)
  | .pulse2 => gated s.enable 1 (pulseOut s.pulse2)

/-- The tnd index j = 3·t + 2·n + d (R220, R223). -/
def tndIndex (s : State) : Nat :=
  3 * (gated s.enable 2 (triOut s.tri)).toNat + 2 * (gated s.enable 3 (noiseOut s.noise)).toNat
    + (gated s.enable 4 (dmcOut s.dmc)).toNat

/-- The MONO pulse index p1 + p2 (R224). -/
def monoIndex (p1 p2 : BitVec 4) : Fin 31 :=
  ⟨p1.toNat + p2.toNat, by omega⟩

/-- A blend table at (p1, p2) (R224). -/
def blend (t : PulseBlend) (p1 p2 : BitVec 4) : Fin 31 :=
  (t[p1.toNat])[p2.toNat]

/-- iL (R224). -/
def pulseIndexL (c : Config) (p1 p2 : BitVec 4) : Fin 31 :=
  match c.stereoMode with
  | .mono => monoIndex p1 p2
  | .stereo => blend c.pulseBlendL p1 p2

/-- iR (R224). -/
def pulseIndexR (c : Config) (p1 p2 : BitVec 4) : Fin 31 :=
  match c.stereoMode with
  | .mono => monoIndex p1 p2
  | .stereo => blend c.pulseBlendR p1 p2

/-- One side of the mix: the sum of the two table entries (R225), exact because a well-formed configuration keeps it at most 255
(R6), or the LINEAR_MIX entry (R227). -/
def mixSide (c : Config) (i : Fin 31) (j : Fin 203) : Byte :=
  match c.mixMode with
  | .lut => c.pulseLut[i] + c.tndLut[j]
  | .linear => (c.linearMix[i])[j]

/-- Mix(state, config) → (L, R) (R228); `none` when the tnd index lies outside TND_LUT. -/
def mix (s : State) : Option (Byte × Byte) :=
  let p1 := pulseLevel s .pulse1
  let p2 := pulseLevel s .pulse2
  if h : tndIndex s < 203 then
    some (mixSide s.cfg.val (pulseIndexL s.cfg.val p1 p2) ⟨tndIndex s, h⟩,
      mixSide s.cfg.val (pulseIndexR s.cfg.val p1 p2) ⟨tndIndex s, h⟩)
  else none

/-- dacL ← L; dacR ← R; emit DacWrite(L, R) (R229). -/
def State.dacWrite (s : State) (l r : Byte) : State :=
  { s with dacL := l, dacR := r, outputs := .dacWrite l r :: s.outputs }

/-- WR.ENABLE v (R221). -/
def execWrEnable (v : BitVec 5) (s : State) : Result :=
  .next { s with enable := v }

/-- RD.ENABLE (R222). -/
def execRdEnable (s : State) : Result :=
  .next (s.returnRead (zext32 s.enable))

/-- RD.DACL (R230). -/
def execRdDacl (s : State) : Result :=
  .next (s.returnRead (zext32 s.dacL))

/-- RD.DACR (R231). -/
def execRdDacr (s : State) : Result :=
  .next (s.returnRead (zext32 s.dacR))

end Sys2Proof.Machine
end

