-- ==== Sys2Proof/Machine/Callback.lean ====
section
/-! DEFINITION. The audio callback TICK and the lossy counters: 46_callback.md. -/

namespace Sys2Proof.Machine

/-- Stage 1 of TICK (R240): every oscillator advances once. -/
def advanceChannels (s : State) : State :=
  tickDmc (tickNoise (tickTri (tickPulse .pulse2 (tickPulse .pulse1 s))))

/-- CounterStep (R242), stage 4 of TICK. -/
def counterStep (s : State) : State :=
  let us := s.cfg.val.tickUs.val
  let f := s.msFrac.toNat + us
  if 1000 ≤ f then
    { s with micros := s.micros + BitVec.ofNat 32 us, msFrac := BitVec.ofNat 10 (f - 1000), millis := s.millis + 1 }
  else
    { s with micros := s.micros + BitVec.ofNat 32 us, msFrac := BitVec.ofNat 10 f }

/-- TICK (R240): the channels, the mix, the DAC write, the counters, as one atomic operation (R241). -/
def execTick (s : State) : Result :=
  let t := advanceChannels s
  match mix t with
  | some (l, r) => .next (counterStep (t.dacWrite l r))
  | none => .fault .tndIndexOutOfRange

/-- RD.MICROS (R244). -/
def execRdMicros (s : State) : Result :=
  .next (s.returnRead s.micros)

/-- RD.MILLIS (R245). -/
def execRdMillis (s : State) : Result :=
  .next (s.returnRead s.millis)

end Sys2Proof.Machine
end

