-- ==== Sys2Proof/Machine/Region.lean ====
section
/-! DEFINITION. Region selection, the frame period, the status read and RESET: 47_region_status.md and 70_reset_and_hazards.md R330,
R331. -/

namespace Sys2Proof.Machine

/-- WR.REGION r (R261): a change sets region and emits RegionLog; writing the region that holds does nothing. -/
def execWrRegion (r : Region) (s : State) : Result :=
  .next (if r = s.region then s else { s with region := r, outputs := .regionLog r :: s.outputs })

/-- RD.REGION (R262). -/
def execRdRegion (s : State) : Result :=
  .next (s.returnRead (flagAt (bitOfRegion s.region) 0))

/-- RD.FRAMEUS (R263). -/
def execRdFrameus (s : State) : Result :=
  .next (s.returnRead (frameUs s.cfg.val s.region))

/-- RD.STATUS (R265): the bits are not cleared. -/
def execRdStatus (s : State) : Result :=
  .next (s.returnRead (statusWord s.status))

/-- RESET (R330, R331): every architectural field at its reset value, no event emitted, the configuration and the sample memory
unchanged; what the ports still bring and have already shown stays. -/
def execReset (s : State) : Result :=
  .next { State.reset with cfg := s.cfg, sampleMem := s.sampleMem, inputs := s.inputs, outputs := s.outputs }

end Sys2Proof.Machine
end

