-- ==== Sys2Proof/Machine/Dispatch.lean ====
section
/-! DEFINITION. The dispatch: one arm for each instruction, each a direct call of its meaning. -/

namespace Sys2Proof.Machine

open Sys2Proof

def exec (i : Instr) (s : State) : Host.Outcome State Fault Refusal :=
  match i with
  | .wrPduty c v => Sys2Proof.Machine.execWrPduty c v s
  | .wrPvol c v => Sys2Proof.Machine.execWrPvol c v s
  | .wrPdelta c v => Sys2Proof.Machine.execWrPdelta c v s
  | .wrTgate g => Sys2Proof.Machine.execWrTgate g s
  | .wrTdelta v => Sys2Proof.Machine.execWrTdelta v s
  | .wrNvol v => Sys2Proof.Machine.execWrNvol v s
  | .wrNmode short => Sys2Proof.Machine.execWrNmode short s
  | .wrNseed v => Sys2Proof.Machine.execWrNseed v s
  | .wrNdelta v => Sys2Proof.Machine.execWrNdelta v s
  | .wrNrate idx => Sys2Proof.Machine.execWrNrate idx s
  | .wrDaddr v => Sys2Proof.Machine.execWrDaddr v s
  | .wrDlen v => Sys2Proof.Machine.execWrDlen v s
  | .wrDcfg rate loop seed => Sys2Proof.Machine.execWrDcfg rate loop seed s
  | .wrDplay => Sys2Proof.Machine.execWrDplay s
  | .wrDkill => Sys2Proof.Machine.execWrDkill s
  | .wrEnable v => Sys2Proof.Machine.execWrEnable v s
  | .wrRegion r => Sys2Proof.Machine.execWrRegion r s
  | .rdPduty c => Sys2Proof.Machine.execRdPduty c s
  | .rdPvol c => Sys2Proof.Machine.execRdPvol c s
  | .rdPdelta c => Sys2Proof.Machine.execRdPdelta c s
  | .rdPacc c => Sys2Proof.Machine.execRdPacc c s
  | .rdTgate => Sys2Proof.Machine.execRdTgate s
  | .rdTdelta => Sys2Proof.Machine.execRdTdelta s
  | .rdTacc => Sys2Proof.Machine.execRdTacc s
  | .rdTsample => Sys2Proof.Machine.execRdTsample s
  | .rdNvol => Sys2Proof.Machine.execRdNvol s
  | .rdNmode => Sys2Proof.Machine.execRdNmode s
  | .rdNseed => Sys2Proof.Machine.execRdNseed s
  | .rdNdelta => Sys2Proof.Machine.execRdNdelta s
  | .rdNclk => Sys2Proof.Machine.execRdNclk s
  | .rdNcmp => Sys2Proof.Machine.execRdNcmp s
  | .rdNout => Sys2Proof.Machine.execRdNout s
  | .rdDaddr => Sys2Proof.Machine.execRdDaddr s
  | .rdDlen => Sys2Proof.Machine.execRdDlen s
  | .rdDcfg => Sys2Proof.Machine.execRdDcfg s
  | .rdDout => Sys2Proof.Machine.execRdDout s
  | .rdDpos => Sys2Proof.Machine.execRdDpos s
  | .rdDclk => Sys2Proof.Machine.execRdDclk s
  | .rdDcmp => Sys2Proof.Machine.execRdDcmp s
  | .rdDdelta => Sys2Proof.Machine.execRdDdelta s
  | .rdDcur => Sys2Proof.Machine.execRdDcur s
  | .rdDaaddr => Sys2Proof.Machine.execRdDaaddr s
  | .rdDalen => Sys2Proof.Machine.execRdDalen s
  | .rdEnable => Sys2Proof.Machine.execRdEnable s
  | .rdDacl => Sys2Proof.Machine.execRdDacl s
  | .rdDacr => Sys2Proof.Machine.execRdDacr s
  | .rdRegion => Sys2Proof.Machine.execRdRegion s
  | .rdFrameus => Sys2Proof.Machine.execRdFrameus s
  | .rdMicros => Sys2Proof.Machine.execRdMicros s
  | .rdMillis => Sys2Proof.Machine.execRdMillis s
  | .rdStatus => Sys2Proof.Machine.execRdStatus s
  | .tick => Sys2Proof.Machine.execTick s
  | .reset => Sys2Proof.Machine.execReset s

end Sys2Proof.Machine
end

