-- ==== Sys2Proof/Machine/Fetch.lean ====
section
/-! DEFINITION. How the next operation reaches the block: the input ports of 30_encoding.md R70, in the total order of 20_memory.md
R58. The block fetches no instructions of its own (10_state.md R21). -/

namespace Sys2Proof.Machine

/-- The next operation at the ports and the state with it taken off; `none` when there is none yet. -/
def takeInput (s : State) : Option (Input × State) :=
  match s.inputs with
  | [] => none
  | x :: rest => some (x, { s with inputs := rest })

/-- The state in which the operation x comes next, before everything already at the ports. -/
def placeInput (s : State) (x : Input) : State :=
  { s with inputs := x :: s.inputs }

/-- The command word with the bits w, numbered as the opcode table numbers them, cut to the table's nbits. -/
def tableWord (nbits w : Nat) : CommandWord :=
  BitVec.ofNat 41 (w % 2 ^ nbits)

end Sys2Proof.Machine
end

