-- ==== Sys2Proof/Machine/Step.lean ====
section
/-! DEFINITION. One step: the next operation at the ports, decoded and performed (00_scope.md R2, 20_memory.md R58). -/

namespace Sys2Proof.Machine

/-- With an operation at the ports, the step performs it: the decoded instruction, or "raise Illegal" for a word that decodes to
none (R75, R301). With none, the block is idle and its state holds (R312). -/
def step (s : State) : Host.Outcome State Fault Refusal :=
  match takeInput s with
  | none => .next s
  | some (x, t) =>
    match decodeInput x with
    | .ok i => exec i t
    | .error _ => .next (t.raiseIllegal (inputIsRead x))

/-- s with the command word w (numbered as the opcode table numbers it) as its next operation. -/
def State.withFetchWord (s : State) (nbits w : Nat) : State :=
  placeInput s (.command (tableWord nbits w))

end Sys2Proof.Machine
end

