-- ==== Sys2Proof/Machine/Assembler.lean ====
section
/-! DEFINITION. The assembler of 30_encoding.md R78 as an abstract syntax, and the host-side pseudo-instructions of R79 with their
expansions. The block sees only the command words and events they stand for. -/

namespace Sys2Proof.Machine

/-- The names of the pulse registers (R73). -/
inductive PulseReg where
  | pduty
  | pvol
  | pdelta
  | pacc
  deriving DecidableEq, Repr

/-- The base address of a pulse register, for c = 0 (R73). -/
def pulseRegBase : PulseReg → RegAddr
  | .pduty => 0x00
  | .pvol => 0x01
  | .pdelta => 0x02
  | .pacc => 0x03

/-- The names of the other registers (R73). -/
inductive RegName where
  | tgate
  | tdelta
  | tacc
  | tsample
  | nvol
  | nmode
  | nseed
  | ndelta
  | nrate
  | nclk
  | ncmp
  | nout
  | daddr
  | dlen
  | dcfg
  | dplay
  | dkill
  | dout
  | dpos
  | dclk
  | dcmp
  | ddelta
  | dcur
  | daaddr
  | dalen
  | enable
  | dacl
  | dacr
  | region
  | frameus
  | micros
  | millis
  | status
  deriving DecidableEq, Repr

/-- The address of a register (R73). -/
def regNameAddr : RegName → RegAddr
  | .tgate => 0x08
  | .tdelta => 0x09
  | .tacc => 0x0A
  | .tsample => 0x0B
  | .nvol => 0x0C
  | .nmode => 0x0D
  | .nseed => 0x0E
  | .ndelta => 0x0F
  | .nrate => 0x10
  | .nclk => 0x11
  | .ncmp => 0x12
  | .nout => 0x13
  | .daddr => 0x14
  | .dlen => 0x15
  | .dcfg => 0x16
  | .dplay => 0x17
  | .dkill => 0x18
  | .dout => 0x19
  | .dpos => 0x1A
  | .dclk => 0x1B
  | .dcmp => 0x1C
  | .ddelta => 0x1D
  | .dcur => 0x1E
  | .daaddr => 0x1F
  | .dalen => 0x20
  | .enable => 0x24
  | .dacl => 0x25
  | .dacr => 0x26
  | .region => 0x28
  | .frameus => 0x29
  | .micros => 0x2C
  | .millis => 0x2D
  | .status => 0x2E

/-- One line of a program (R78): WR.NAME c, value; RD.NAME c; WR.NAME value; RD.NAME; TICK n; RESET. A value is the whole D. -/
inductive AsmLine where
  | wrPulse (r : PulseReg) (c : PulseChan) (value : Data)
  | rdPulse (r : PulseReg) (c : PulseChan)
  | wr (r : RegName) (value : Data)
  | rd (r : RegName)
  | tick (n : Nat)
  | reset
  deriving DecidableEq, Repr

/-- The operations a line stands for (R78). -/
def asmLine : AsmLine → List Input
  | .wrPulse r c v => [.command (writeWord (pulseAddr (pulseRegBase r) c) v)]
  | .rdPulse r c => [.command (readWord (pulseAddr (pulseRegBase r) c) 0)]
  | .wr r v => [.command (writeWord (regNameAddr r) v)]
  | .rd r => [.command (readWord (regNameAddr r) 0)]
  | .tick n => List.replicate n .tick
  | .reset => [.reset]

/-- The operations of a program, in order (R78). -/
def assemble (p : List AsmLine) : List Input :=
  p.flatMap asmLine

/-- The pseudo-instructions (R79). DESIGN CHOICE (log entry 16): R79 gives rate, seed, loop, s, len and idx no range; they are 32-bit
values here. DESIGN CHOICE (log entry 15): FREQ takes its frequency as num / den Hz. -/
inductive Pseudo where
  | duty (c : PulseChan) (k : Fin 4)
  | dcfg (rate seed loop : Data)
  | play (addr len rate seed loop : Data)
  | noise (idx short : Data)
  | silence
  | nop
  | freq (c : PulseChan) (num den : Nat)
  deriving DecidableEq, Repr

/-- [32, 64, 128, 192][k] (R79). -/
def dutyOf (k : Fin 4) : Data :=
  match k with
  | 0 => 32
  | 1 => 64
  | 2 => 128
  | 3 => 192

/-- (seed << 8) | (loop << 7) | rate (R79). DESIGN CHOICE (log entry 16): the shifts are taken in the 32 bits of D and drop what
leaves it, where R7's shift does not truncate and R79 does not say how a value wider than D is placed in it. With rate at most 15,
loop at most 1 and seed at most 127 nothing is dropped. -/
def dcfgValue (rate seed loop : Data) : Data :=
  (seed <<< 8) ||| (loop <<< 7) ||| rate

/-- The expansion of a pseudo-instruction (R79); sampleRate is SAMPLE_RATE, which FREQ alone reads, a whole
number of Hz by DESIGN CHOICE (log entry 17). DESIGN CHOICE: NOISE's s << 7 is
taken in 32 bits (log entry 16), and so is FREQ's increment (log entry 15); no operand is checked here, so one outside its register's
mask expands to a word that the block then calls illegal. -/
def expandPseudo (sampleRate : Nat) : Pseudo → List AsmLine
  | .duty c k => [.wrPulse .pduty c (dutyOf k)]
  | .dcfg rate seed loop => [.wr .dcfg (dcfgValue rate seed loop)]
  | .play addr len rate seed loop =>
    [.wr .daddr addr, .wr .dlen len, .wr .dcfg (dcfgValue rate seed loop), .wr .dplay 0]
  | .noise idx short => [.wr .nrate idx, .wr .nmode (short <<< 7)]
  | .silence => [.wrPulse .pvol .pulse1 0, .wrPulse .pvol .pulse2 0, .wr .tgate 0, .wr .nvol 0, .wr .dkill 0]
  | .nop => [.rd .status]
  | .freq c num den => [.wrPulse .pdelta c (BitVec.ofNat 32 (num * 65536 / (den * sampleRate)))]

end Sys2Proof.Machine
end

