-- ==== Sys2Proof/Safety.lean ====
section
/-! DEFINITION. What counts as a safe run, in the terms the claims use: no fault recorded (60_exceptions.md R303), the invariants of
10_state.md R25, and the run of a list of operations (20_memory.md R58). -/

namespace Sys2Proof.Machine

/-- No fault is recorded: neither sticky bit is set (R303). -/
def State.noFaultRecorded (s : State) : Bool :=
  !s.status.ill && !s.status.dmcf

/-- The comparison word of a bit clock is the last one serviced (R25, first invariant). -/
abbrev BitClock.Serviced (k : BitClock) : Prop :=
  k.cmp = compareWord k.clk

/-- The invariants of R25 (dmc.out at most 127 holds by its width), with the canonical form of the sample memory. A well-formed
configuration is part of the type of State. -/
abbrev State.Inv (s : State) : Prop :=
  s.noise.clock.Serviced ∧ s.dmc.clock.Serviced ∧ s.tri.sample.toNat ≤ 15 ∧ s.msFrac.toNat < 1000 ∧
    (s.cfg.val.dmcMode = .half → s.dmc.bitOffset.getLsbD 0 = false) ∧ Memory.wf s.sampleMem = true

/-- The run that performs exactly the operations l, in order, from s (R58). -/
def perform (l : List Input) (s : State) : Host.Outcome State Fault Refusal :=
  Host.Core.run Sys2Proof.core l.length { s with inputs := l }

/-- n TICKs with no command between them (R78). -/
def ticks (n : Nat) : List Input :=
  List.replicate n .tick

/-- The instruction is a read. -/
def isRead (i : Instr) : Bool :=
  inputIsRead (encode i)

/-- k effective clocks of the DMC, one after another (R182, R201). -/
def dmcClocks : Nat → State → State
  | 0, s => s
  | k + 1, s => dmcClocks k (s.settleDmc (dmcClock s.cfg.val s.sampleMem s.dmc))

/-- k shifts of the LFSR, one after another. -/
def lfsrShifts : Nat → Noise → Noise
  | 0, n => n
  | k + 1, n => lfsrShifts k (lfsrShift n)

/-- How many of the next n ticks are effective clocks of a bit clock (R102). -/
def effectiveClocks : Nat → BitClock → Nat
  | 0, _ => 0
  | n + 1, k => (if (bitClockStep k).2 then 1 else 0) + effectiveClocks n (bitClockStep k).1

/-- The next step on the write word of address a does f when the data stays inside the mask, and only sets STATUS.ILL when it does
not (R74, R75, R301). -/
def WriteDoes (a : RegAddr) (mask : Data) (f : Data → State → State) : Prop :=
  ∀ (d : Data) (s : State), step (placeInput s (.command (writeWord a d))) =
    .next (if d &&& ~~~mask = 0 then f d s else { s with status := { s.status with ill := true } })

/-- The next step on the read word of address a, whatever its data bits, returns v and changes nothing else (R56, R71). -/
def ReadReturns (a : RegAddr) (v : State → Data) : Prop :=
  ∀ (d : Data) (s : State), step (placeInput s (.command (readWord a d))) =
    .next { s with outputs := .readData (v s) :: s.outputs }

/-- A write to address a is illegal: it only sets STATUS.ILL (R77, R301). -/
def WriteIsIllegal (a : RegAddr) : Prop :=
  ∀ (d : Data) (s : State), step (placeInput s (.command (writeWord a d))) =
    .next { s with status := { s.status with ill := true } }

/-- A read of address a is illegal: it sets STATUS.ILL and returns 0 (R77, R301). -/
def ReadIsIllegal (a : RegAddr) : Prop :=
  ∀ (d : Data) (s : State), step (placeInput s (.command (readWord a d))) =
    .next { s with status := { s.status with ill := true }, outputs := .readData 0 :: s.outputs }

end Sys2Proof.Machine
end

