-- ==== Sys2Proof/Certificates/Slice0/Obligations.lean ====
section
/-! DEFINITION. The statements for the provers: what the numbered rules of the spec say of the commands, of TICK, of RESET and of
whole runs. Each names the rules it formalises. -/

open Sys2Proof Sys2Proof.Machine

/-! ### Decoding and stepping -/

/-- A step with an operation at the ports performs the decoded instruction on the state without that operation (R58, R75); a
step with none leaves the state as it is (R312). The list of operations at the ports is the model's carrier (log entry 4). -/
def Obligations.StepRunsTheDecodedOperation : Prop :=
  (∀ (s : State) (x : Input) (rest : List Input) (i : Instr), s.inputs = x :: rest → decodeInput x = .ok i →
    step s = exec i { s with inputs := rest }) ∧
  (∀ s : State, s.inputs = [] → step s = .next s)

/-- Decoding the encoding of an instruction gives the instruction back, every operand at every value (R71 to R75). -/
def Obligations.EncodedInstructionsDecodeBack : Prop :=
  ∀ i : Instr, decodeInput (encode i) = .ok i

/-- Encoding what a word decodes to gives the word back; for a read, with its ignored data bits 0 (R71). -/
def Obligations.DecodedWordsEncodeBack : Prop :=
  ∀ (cw : CommandWord) (i : Instr), decode cw = .ok i →
    encode i = .command (if cwWrite cw then cw else readWord (cwAddr cw) 0)

/-- Decode follows R75 row by row: the first cause that applies is named, and a word with none decodes. -/
def Obligations.DecodeNamesTheFirstIllegalCause : Prop :=
  ∀ cw : CommandWord,
    match regMap.find? (fun r => r.addr == cwAddr cw) with
    | none => decode cw = .error (.undefinedAddress (cwAddr cw))
    | some r =>
      if cwWrite cw then
        if r.access = .ro then decode cw = .error (.writeToReadOnly (cwAddr cw))
        else if cwData cw &&& ~~~r.writeMask ≠ 0 then decode cw = .error (.reservedBits (cwAddr cw) (cwData cw))
        else ∃ i, decode cw = .ok i
      else if r.access = .wo then decode cw = .error (.readOfWriteOnly (cwAddr cw))
      else ∃ i, decode cw = .ok i

/-- R77 and R301: a word is legal exactly when it is one row of the opcode table; an illegal one sets STATUS.ILL, returns 0 if it
is a read, and has no other effect. -/
def Obligations.IllegalWordsOnlySetIll : Prop :=
  (∀ cw : CommandWord, wordLegal cw = true ↔ ∃ row ∈ opcodeTable, cw &&& row.2 = row.1) ∧
  (∀ (cw : CommandWord) (s : State), wordLegal cw = false →
    step (placeInput s (.command cw)) =
      .next { s with
        status := { s.status with ill := true }
        outputs := if cwWrite cw then s.outputs else .readData 0 :: s.outputs })

/-- No word belongs to two rows of the opcode table (R77). -/
def Obligations.OpcodeRowsAreDisjoint : Prop :=
  opcodeTable.Pairwise fun p q => (p.1 ^^^ q.1) &&& p.2 &&& q.2 ≠ 0

/-- A few words written out in the spec decode to the instructions they stand for (95_test_vectors.md). -/
def Obligations.WrittenOutWordsDecode : Prop :=
  decode 0x104000000C0 = .ok (.wrPduty .pulse2 0xC0) ∧ decode 0x10800000001 = .ok (.wrTgate true) ∧
  decode 0x10D00000080 = .ok (.wrNmode true) ∧ decode 0x1160000408F = .ok (.wrDcfg 15 true 64) ∧
  decode 0x12400000003 = .ok (.wrEnable 3) ∧ decode 0x12800000001 = .ok (.wrRegion .pal) ∧
  decode 0x02E12345678 = .ok .rdStatus

/-! ### What each instruction leaves: completion and frame -/

/-- WR.PDUTY, WR.PVOL, WR.PDELTA answer a next state in every state and change their one field of their one channel only
(R112, R114, R116). -/
def Obligations.PulseWriteResults : Prop :=
  ∀ s : State,
    (∀ v, exec (.wrPduty .pulse1 v) s = .next { s with pulse1 := { s.pulse1 with duty := v } }) ∧
    (∀ v, exec (.wrPduty .pulse2 v) s = .next { s with pulse2 := { s.pulse2 with duty := v } }) ∧
    (∀ v, exec (.wrPvol .pulse1 v) s = .next { s with pulse1 := { s.pulse1 with vol := v } }) ∧
    (∀ v, exec (.wrPvol .pulse2 v) s = .next { s with pulse2 := { s.pulse2 with vol := v } }) ∧
    (∀ v, exec (.wrPdelta .pulse1 v) s = .next { s with pulse1 := { s.pulse1 with delta := v } }) ∧
    (∀ v, exec (.wrPdelta .pulse2 v) s = .next { s with pulse2 := { s.pulse2 with delta := v } })

/-- RD.PDUTY, RD.PVOL, RD.PDELTA, RD.PACC return their field zero-extended and change nothing else (R113, R115, R117, R118). -/
def Obligations.PulseReadResults : Prop :=
  ∀ s : State,
    exec (.rdPduty .pulse1) s = .next { s with outputs := .readData (s.pulse1.duty.setWidth 32) :: s.outputs } ∧
    exec (.rdPduty .pulse2) s = .next { s with outputs := .readData (s.pulse2.duty.setWidth 32) :: s.outputs } ∧
    exec (.rdPvol .pulse1) s = .next { s with outputs := .readData (s.pulse1.vol.setWidth 32) :: s.outputs } ∧
    exec (.rdPvol .pulse2) s = .next { s with outputs := .readData (s.pulse2.vol.setWidth 32) :: s.outputs } ∧
    exec (.rdPdelta .pulse1) s = .next { s with outputs := .readData (s.pulse1.delta.setWidth 32) :: s.outputs } ∧
    exec (.rdPdelta .pulse2) s = .next { s with outputs := .readData (s.pulse2.delta.setWidth 32) :: s.outputs } ∧
    exec (.rdPacc .pulse1) s = .next { s with outputs := .readData (s.pulse1.acc.setWidth 32) :: s.outputs } ∧
    exec (.rdPacc .pulse2) s = .next { s with outputs := .readData (s.pulse2.acc.setWidth 32) :: s.outputs }

/-- The triangle commands (R133 to R138): WR.TGATE forces acc to 0x8000 on a change from 0 to 1 only. -/
def Obligations.TriangleResults : Prop :=
  ∀ s : State,
    (s.tri.gate = false →
      exec (.wrTgate true) s = .next { s with tri := { s.tri with gate := true, acc := 0x8000 } }) ∧
    (s.tri.gate = true → exec (.wrTgate true) s = .next s) ∧
    exec (.wrTgate false) s = .next { s with tri := { s.tri with gate := false } } ∧
    (∀ v, exec (.wrTdelta v) s = .next { s with tri := { s.tri with delta := v } }) ∧
    exec .rdTgate s = .next { s with outputs := .readData (if s.tri.gate then 1 else 0) :: s.outputs } ∧
    exec .rdTdelta s = .next { s with outputs := .readData (s.tri.delta.setWidth 32) :: s.outputs } ∧
    exec .rdTacc s = .next { s with outputs := .readData (s.tri.acc.setWidth 32) :: s.outputs } ∧
    exec .rdTsample s = .next { s with outputs := .readData (s.tri.sample.setWidth 32) :: s.outputs }

/-- WR.NVOL, WR.NMODE, WR.NSEED, WR.NDELTA, WR.NRATE (R154, R156, R158, R160, R162). -/
def Obligations.NoiseWriteResults : Prop :=
  ∀ s : State,
    (∀ v, exec (.wrNvol v) s = .next { s with noise := { s.noise with vol := v } }) ∧
    (∀ b, exec (.wrNmode b) s = .next { s with noise := { s.noise with short := b } }) ∧
    (∀ v, exec (.wrNseed v) s = .next { s with noise := { s.noise with seed := v } }) ∧
    (∀ v, exec (.wrNdelta v) s =
      .next { s with noise := { s.noise with clock := { s.noise.clock with delta := v } } }) ∧
    (∀ k, s.region = .ntsc → exec (.wrNrate k) s =
      .next { s with noise := { s.noise with clock := { s.noise.clock with delta := s.cfg.val.noiseRateNtsc[k.toNat] } } }) ∧
    (∀ k, s.region = .pal → exec (.wrNrate k) s =
      .next { s with noise := { s.noise with clock := { s.noise.clock with delta := s.cfg.val.noiseRatePal[k.toNat] } } })

/-- RD.NVOL, RD.NMODE, RD.NSEED, RD.NDELTA, RD.NCLK, RD.NCMP, RD.NOUT (R155, R157, R159, R161, R163 to R165). -/
def Obligations.NoiseReadResults : Prop :=
  ∀ s : State,
    exec .rdNvol s = .next { s with outputs := .readData (s.noise.vol.setWidth 32) :: s.outputs } ∧
    exec .rdNmode s = .next { s with outputs := .readData (if s.noise.short then 0x80 else 0) :: s.outputs } ∧
    exec .rdNseed s = .next { s with outputs := .readData (s.noise.seed.setWidth 32) :: s.outputs } ∧
    exec .rdNdelta s = .next { s with outputs := .readData s.noise.clock.delta :: s.outputs } ∧
    exec .rdNclk s = .next { s with outputs := .readData s.noise.clock.clk :: s.outputs } ∧
    exec .rdNcmp s = .next { s with outputs := .readData (s.noise.clock.cmp.setWidth 32) :: s.outputs } ∧
    exec .rdNout s = .next { s with outputs := .readData (s.noise.bit.setWidth 32) :: s.outputs }

/-- WR.DADDR, WR.DLEN, WR.DCFG change only staging; WR.DPLAY copies the whole group and resets the position; WR.DKILL resets the
position and zeroes the rate (R183, R185, R187, R189, R190, R181). -/
def Obligations.DmcWriteResults : Prop :=
  ∀ s : State,
    (∀ v, exec (.wrDaddr v) s = .next { s with stage := { s.stage with addr := v } }) ∧
    (∀ v, exec (.wrDlen v) s = .next { s with stage := { s.stage with len := v } }) ∧
    (∀ r l g, exec (.wrDcfg r l g) s = .next { s with stage := { s.stage with rate := r, loop := l, seed := g } }) ∧
    exec .wrDplay s = .next { s with dmc :=
      { addr := s.stage.addr, len := s.stage.len, loop := s.stage.loop, out := s.stage.seed, cur := s.dmc.cur
        offset := 0, bitOffset := 0
        clock :=
          { clk := if s.cfg.val.dmcResetClearsClock then 0 else s.dmc.clock.clk
            cmp := if s.cfg.val.dmcResetClearsClock then 0 else s.dmc.clock.cmp
            delta := match s.region with
              | .ntsc => s.cfg.val.dmcRateNtsc[s.stage.rate.toNat]
              | .pal => s.cfg.val.dmcRatePal[s.stage.rate.toNat] } } } ∧
    exec .wrDkill s = .next { s with dmc :=
      { s.dmc with
        offset := 0, bitOffset := 0
        clock :=
          { clk := if s.cfg.val.dmcResetClearsClock then 0 else s.dmc.clock.clk
            cmp := if s.cfg.val.dmcResetClearsClock then 0 else s.dmc.clock.cmp
            delta := 0 } } }

/-- The DMC reads (R184, R186, R188, R191 to R195, R203 to R205). -/
def Obligations.DmcReadResults : Prop :=
  ∀ s : State,
    exec .rdDaddr s = .next { s with outputs := .readData s.stage.addr :: s.outputs } ∧
    exec .rdDlen s = .next { s with outputs := .readData (s.stage.len.setWidth 32) :: s.outputs } ∧
    exec .rdDcfg s = .next { s with
      outputs := .readData
        (s.stage.seed.setWidth 32 <<< 8 ||| (if s.stage.loop then 0x80 else 0) ||| s.stage.rate.setWidth 32) :: s.outputs } ∧
    exec .rdDout s = .next { s with outputs := .readData (s.dmc.out.setWidth 32) :: s.outputs } ∧
    exec .rdDpos s = .next { s with
      outputs := .readData (s.dmc.bitOffset.setWidth 32 <<< 16 ||| s.dmc.offset.setWidth 32) :: s.outputs } ∧
    exec .rdDclk s = .next { s with outputs := .readData s.dmc.clock.clk :: s.outputs } ∧
    exec .rdDcmp s = .next { s with outputs := .readData (s.dmc.clock.cmp.setWidth 32) :: s.outputs } ∧
    exec .rdDdelta s = .next { s with outputs := .readData s.dmc.clock.delta :: s.outputs } ∧
    exec .rdDcur s = .next { s with outputs := .readData (s.dmc.cur.setWidth 32) :: s.outputs } ∧
    exec .rdDaaddr s = .next { s with outputs := .readData s.dmc.addr :: s.outputs } ∧
    exec .rdDalen s = .next { s with
      outputs := .readData ((if s.dmc.loop then 0x10000 else 0) ||| s.dmc.len.setWidth 32) :: s.outputs }

/-- WR.ENABLE, RD.ENABLE, RD.DACL, RD.DACR (R221, R222, R230, R231). -/
def Obligations.MixerResults : Prop :=
  ∀ s : State,
    (∀ v, exec (.wrEnable v) s = .next { s with enable := v }) ∧
    exec .rdEnable s = .next { s with outputs := .readData (s.enable.setWidth 32) :: s.outputs } ∧
    exec .rdDacl s = .next { s with outputs := .readData (s.dacL.setWidth 32) :: s.outputs } ∧
    exec .rdDacr s = .next { s with outputs := .readData (s.dacR.setWidth 32) :: s.outputs }

/-- WR.REGION emits RegionLog on a change and does nothing otherwise; RD.REGION, RD.FRAMEUS, RD.STATUS, RD.MICROS, RD.MILLIS
(R261 to R265, R244, R245). -/
def Obligations.RegionStatusCounterResults : Prop :=
  ∀ s : State,
    (∀ r, r ≠ s.region → exec (.wrRegion r) s = .next { s with region := r, outputs := .regionLog r :: s.outputs }) ∧
    exec (.wrRegion s.region) s = .next s ∧
    exec .rdRegion s = .next { s with outputs := .readData (if s.region = .pal then 1 else 0) :: s.outputs } ∧
    exec .rdFrameus s = .next { s with
      outputs := .readData (if s.region = .pal then s.cfg.val.frameUsPal else s.cfg.val.frameUsNtsc) :: s.outputs } ∧
    exec .rdStatus s = .next { s with
      outputs := .readData ((if s.status.dmcf then 2 else 0) ||| (if s.status.ill then 1 else 0)) :: s.outputs } ∧
    exec .rdMicros s = .next { s with outputs := .readData s.micros :: s.outputs } ∧
    exec .rdMillis s = .next { s with outputs := .readData s.millis :: s.outputs }

/-- RESET, between two operations or during a TICK, puts every field at its reset value, emits nothing and changes no
configuration (R330, R331, R241). That a RESET during a TICK is an input of its own, and that the aborted TICK emits no DacWrite, is
the model's reading of R241 (log entry 9); that inputs and outputs are kept is its form of "emits no event" (log entries 4, 6). -/
def Obligations.ResetPutsEveryFieldAtItsResetValue : Prop :=
  ∀ s : State,
    let after : State :=
      { pulse1 := { acc := 0, delta := 0, duty := 0, vol := 0 }, pulse2 := { acc := 0, delta := 0, duty := 0, vol := 0 }
        tri := { acc := 0, delta := 0, gate := false, sample := 0 }
        noise :=
          { clock := { clk := 0, cmp := 0, delta := 0 }, short := false, seed := 1, vol := 0, bit := 0 }
        dmc :=
          { clock := { clk := 0, cmp := 0, delta := 0 }, offset := 0, bitOffset := 0, cur := 0, addr := 0, len := 0
            loop := false, out := 0 }
        stage := { addr := 0, len := 0, rate := 0, loop := false, seed := 0 }
        enable := 0b11111, dacL := 0, dacR := 0, region := .ntsc, micros := 0, millis := 0, msFrac := 0
        status := { ill := false, dmcf := false }
        cfg := s.cfg, sampleMem := s.sampleMem, inputs := s.inputs, outputs := s.outputs }
    exec .reset s = .next after ∧ step (placeInput s .reset) = .next after ∧
      step (placeInput s .resetDuringTick) = .next after

/-! ### The command words: encoding, effect and illegal forms -/

/-- R112, R114, R116: the pulse writes by address, mask and effect; a word with a reserved bit set writes nothing. -/
def Obligations.PulseWriteCommands : Prop :=
  WriteDoes 0x00 0x000000FF (fun d s => { s with pulse1 := { s.pulse1 with duty := d.extractLsb' 0 8 } }) ∧
  WriteDoes 0x04 0x000000FF (fun d s => { s with pulse2 := { s.pulse2 with duty := d.extractLsb' 0 8 } }) ∧
  WriteDoes 0x01 0x0000000F (fun d s => { s with pulse1 := { s.pulse1 with vol := d.extractLsb' 0 4 } }) ∧
  WriteDoes 0x05 0x0000000F (fun d s => { s with pulse2 := { s.pulse2 with vol := d.extractLsb' 0 4 } }) ∧
  WriteDoes 0x02 0x0000FFFF (fun d s => { s with pulse1 := { s.pulse1 with delta := d.extractLsb' 0 16 } }) ∧
  WriteDoes 0x06 0x0000FFFF (fun d s => { s with pulse2 := { s.pulse2 with delta := d.extractLsb' 0 16 } })

/-- R113, R115, R117, R118: the pulse reads by address; PACC is read-only. -/
def Obligations.PulseReadCommands : Prop :=
  ReadReturns 0x00 (fun s => s.pulse1.duty.setWidth 32) ∧ ReadReturns 0x04 (fun s => s.pulse2.duty.setWidth 32) ∧
  ReadReturns 0x01 (fun s => s.pulse1.vol.setWidth 32) ∧ ReadReturns 0x05 (fun s => s.pulse2.vol.setWidth 32) ∧
  ReadReturns 0x02 (fun s => s.pulse1.delta.setWidth 32) ∧ ReadReturns 0x06 (fun s => s.pulse2.delta.setWidth 32) ∧
  ReadReturns 0x03 (fun s => s.pulse1.acc.setWidth 32) ∧ ReadReturns 0x07 (fun s => s.pulse2.acc.setWidth 32) ∧
  WriteIsIllegal 0x03 ∧ WriteIsIllegal 0x07

/-- R133 to R138: the triangle commands by address; TACC and TSAMPLE are read-only. -/
def Obligations.TriangleCommands : Prop :=
  WriteDoes 0x08 0x00000001 (fun d s => { s with tri :=
    { s.tri with
      gate := d.getLsbD 0
      acc := if d.getLsbD 0 = true ∧ s.tri.gate = false then 0x8000 else s.tri.acc } }) ∧
  WriteDoes 0x09 0x0000FFFF (fun d s => { s with tri := { s.tri with delta := d.extractLsb' 0 16 } }) ∧
  ReadReturns 0x08 (fun s => if s.tri.gate then 1 else 0) ∧ ReadReturns 0x09 (fun s => s.tri.delta.setWidth 32) ∧
  ReadReturns 0x0A (fun s => s.tri.acc.setWidth 32) ∧ ReadReturns 0x0B (fun s => s.tri.sample.setWidth 32) ∧
  WriteIsIllegal 0x0A ∧ WriteIsIllegal 0x0B

/-- R154, R156, R158, R160, R162: the noise writes by address; NRATE is write-only and looks its table up at once. -/
def Obligations.NoiseWriteCommands : Prop :=
  WriteDoes 0x0C 0x0000000F (fun d s => { s with noise := { s.noise with vol := d.extractLsb' 0 4 } }) ∧
  WriteDoes 0x0D 0x00000080 (fun d s => { s with noise := { s.noise with short := d.getLsbD 7 } }) ∧
  WriteDoes 0x0E 0x00007FFF (fun d s => { s with noise := { s.noise with seed := d.extractLsb' 0 15 } }) ∧
  WriteDoes 0x0F 0xFFFFFFFF (fun d s => { s with noise := { s.noise with clock := { s.noise.clock with delta := d } } }) ∧
  WriteDoes 0x10 0x0000000F (fun d s => { s with noise := { s.noise with clock := { s.noise.clock with
    delta := match s.region with
      | .ntsc => s.cfg.val.noiseRateNtsc[(d.extractLsb' 0 4).toNat]
      | .pal => s.cfg.val.noiseRatePal[(d.extractLsb' 0 4).toNat] } } }) ∧
  ReadIsIllegal 0x10

/-- R155, R157, R159, R161, R163 to R165: the noise reads by address; NCLK, NCMP and NOUT are read-only. -/
def Obligations.NoiseReadCommands : Prop :=
  ReadReturns 0x0C (fun s => s.noise.vol.setWidth 32) ∧ ReadReturns 0x0D (fun s => if s.noise.short then 0x80 else 0) ∧
  ReadReturns 0x0E (fun s => s.noise.seed.setWidth 32) ∧ ReadReturns 0x0F (fun s => s.noise.clock.delta) ∧
  ReadReturns 0x11 (fun s => s.noise.clock.clk) ∧ ReadReturns 0x12 (fun s => s.noise.clock.cmp.setWidth 32) ∧
  ReadReturns 0x13 (fun s => s.noise.bit.setWidth 32) ∧
  WriteIsIllegal 0x11 ∧ WriteIsIllegal 0x12 ∧ WriteIsIllegal 0x13

/-- R183, R185, R187, R189, R190: the DMC writes by address; DPLAY and DKILL take no data and are write-only. -/
def Obligations.DmcWriteCommands : Prop :=
  WriteDoes 0x14 0xFFFFFFFF (fun d s => { s with stage := { s.stage with addr := d } }) ∧
  WriteDoes 0x15 0x0000FFFF (fun d s => { s with stage := { s.stage with len := d.extractLsb' 0 16 } }) ∧
  WriteDoes 0x16 0x00007F8F (fun d s => { s with stage :=
    { s.stage with rate := d.extractLsb' 0 4, loop := d.getLsbD 7, seed := d.extractLsb' 8 7 } }) ∧
  WriteDoes 0x17 0x00000000 (fun _ s => { s with dmc :=
    { addr := s.stage.addr, len := s.stage.len, loop := s.stage.loop, out := s.stage.seed, cur := s.dmc.cur
      offset := 0, bitOffset := 0
      clock :=
        { clk := if s.cfg.val.dmcResetClearsClock then 0 else s.dmc.clock.clk
          cmp := if s.cfg.val.dmcResetClearsClock then 0 else s.dmc.clock.cmp
          delta := match s.region with
            | .ntsc => s.cfg.val.dmcRateNtsc[s.stage.rate.toNat]
            | .pal => s.cfg.val.dmcRatePal[s.stage.rate.toNat] } } }) ∧
  WriteDoes 0x18 0x00000000 (fun _ s => { s with dmc :=
    { s.dmc with
      offset := 0, bitOffset := 0
      clock :=
        { clk := if s.cfg.val.dmcResetClearsClock then 0 else s.dmc.clock.clk
          cmp := if s.cfg.val.dmcResetClearsClock then 0 else s.dmc.clock.cmp
          delta := 0 } } }) ∧
  ReadIsIllegal 0x17 ∧ ReadIsIllegal 0x18

/-- R184, R186, R188, R191 to R195, R203 to R205: the DMC reads by address; from DOUT on the registers are read-only. -/
def Obligations.DmcReadCommands : Prop :=
  ReadReturns 0x14 (fun s => s.stage.addr) ∧ ReadReturns 0x15 (fun s => s.stage.len.setWidth 32) ∧
  ReadReturns 0x16 (fun s =>
    s.stage.seed.setWidth 32 <<< 8 ||| (if s.stage.loop then 1 else 0) <<< 7 ||| s.stage.rate.setWidth 32) ∧
  ReadReturns 0x19 (fun s => s.dmc.out.setWidth 32) ∧
  ReadReturns 0x1A (fun s => s.dmc.bitOffset.setWidth 32 <<< 16 ||| s.dmc.offset.setWidth 32) ∧
  ReadReturns 0x1B (fun s => s.dmc.clock.clk) ∧ ReadReturns 0x1C (fun s => s.dmc.clock.cmp.setWidth 32) ∧
  ReadReturns 0x1D (fun s => s.dmc.clock.delta) ∧ ReadReturns 0x1E (fun s => s.dmc.cur.setWidth 32) ∧
  ReadReturns 0x1F (fun s => s.dmc.addr) ∧
  ReadReturns 0x20 (fun s => (if s.dmc.loop then 1 else 0) <<< 16 ||| s.dmc.len.setWidth 32) ∧
  WriteIsIllegal 0x19 ∧ WriteIsIllegal 0x1A ∧ WriteIsIllegal 0x1B ∧ WriteIsIllegal 0x1C ∧ WriteIsIllegal 0x1D ∧
  WriteIsIllegal 0x1E ∧ WriteIsIllegal 0x1F ∧ WriteIsIllegal 0x20

/-- R222, R230, R231, and the command of R221: the mixer commands by address; DACL and DACR are read-only. -/
def Obligations.MixerCommands : Prop :=
  WriteDoes 0x24 0x0000001F (fun d s => { s with enable := d.extractLsb' 0 5 }) ∧
  ReadReturns 0x24 (fun s => s.enable.setWidth 32) ∧ ReadReturns 0x25 (fun s => s.dacL.setWidth 32) ∧
  ReadReturns 0x26 (fun s => s.dacR.setWidth 32) ∧ WriteIsIllegal 0x25 ∧ WriteIsIllegal 0x26

/-- R261 to R263, R265, R244, R245: the region, status and counter commands by address; all but REGION are read-only. -/
def Obligations.RegionStatusCounterCommands : Prop :=
  WriteDoes 0x28 0x00000001 (fun d s =>
    if (if d.getLsbD 0 then Region.pal else Region.ntsc) = s.region then s
    else { s with
      region := if d.getLsbD 0 then .pal else .ntsc
      outputs := .regionLog (if d.getLsbD 0 then .pal else .ntsc) :: s.outputs }) ∧
  ReadReturns 0x28 (fun s => if s.region = .pal then 1 else 0) ∧
  ReadReturns 0x29 (fun s => if s.region = .pal then s.cfg.val.frameUsPal else s.cfg.val.frameUsNtsc) ∧
  ReadReturns 0x2C (fun s => s.micros) ∧ ReadReturns 0x2D (fun s => s.millis) ∧
  ReadReturns 0x2E (fun s => (if s.status.dmcf then 1 else 0) <<< 1 ||| (if s.status.ill then 1 else 0)) ∧
  WriteIsIllegal 0x29 ∧ WriteIsIllegal 0x2C ∧ WriteIsIllegal 0x2D ∧ WriteIsIllegal 0x2E

/-! ### TICK -/

/-- TICK answers a next state in every state whose triangle sample is at most 15 (an invariant of R25): it writes the DAC once and
leaves staging, enable, region, STATUS.ILL, the configuration and the ports' inputs alone (R240, R229). -/
def Obligations.TickCompletes : Prop :=
  ∀ s : State, s.tri.sample.toNat ≤ 15 →
    ∃ t, exec .tick s = .next t ∧ t.outputs = .dacWrite t.dacL t.dacR :: s.outputs ∧ t.stage = s.stage ∧
      t.enable = s.enable ∧ t.region = s.region ∧ t.status.ill = s.status.ill ∧ t.cfg = s.cfg ∧
      t.sampleMem = s.sampleMem ∧ t.inputs = s.inputs

/-- R110: TICK advances both pulse accumulators modulo 2^16 and changes nothing else of the pulse channels. -/
def Obligations.TickAdvancesThePulses : Prop :=
  ∀ s t : State, exec .tick s = .next t →
    t.pulse1 = { s.pulse1 with acc := s.pulse1.acc + s.pulse1.delta } ∧
    t.pulse2 = { s.pulse2 with acc := s.pulse2.acc + s.pulse2.delta }

/-- R130: TICK's triangle step, gated (read, then advance) and ungated (frozen, decay by 1 to 0). -/
def Obligations.TickStepsTheTriangle : Prop :=
  ∀ s t : State, exec .tick s = .next t →
    (s.tri.gate = true → t.tri =
      { s.tri with
        sample := s.cfg.val.triLut[(s.tri.acc.extractLsb' 8 8).toNat]
        acc := s.tri.acc + s.tri.delta }) ∧
    (s.tri.gate = false → t.tri = { s.tri with sample := if s.tri.sample = 0 then 0 else s.tri.sample - 1 })

/-- R150, R151 with R102: TICK advances the noise bit clock; when its high half differs from the comparison word the LFSR shifts
once, else no LFSR field changes. -/
def Obligations.TickClocksTheNoise : Prop :=
  ∀ s t : State, exec .tick s = .next t →
    let clk := s.noise.clock.clk + s.noise.clock.delta
    let tap := if s.noise.short then 6 else 1
    (clk.extractLsb' 16 16 = s.noise.clock.cmp →
      t.noise = { s.noise with clock := { s.noise.clock with clk := clk } }) ∧
    (clk.extractLsb' 16 16 ≠ s.noise.clock.cmp →
      t.noise.clock = { clk := clk, cmp := clk.extractLsb' 16 16, delta := s.noise.clock.delta } ∧
      t.noise.bit = BitVec.ofBool (s.noise.seed.getLsbD 0) ∧
      t.noise.seed = BitVec.ofBool (s.noise.seed.getLsbD 0 ^^ s.noise.seed.getLsbD tap) ++ s.noise.seed.extractLsb' 1 14 ∧
      t.noise.short = s.noise.short ∧ t.noise.vol = s.noise.vol)

/-- R182: on an idle tick only dmc.clk may change; with delta 0 and the comparison word serviced nothing of the DMC does. -/
def Obligations.TickLeavesAnIdleDmc : Prop :=
  ∀ s t : State, exec .tick s = .next t →
    ((s.dmc.clock.clk + s.dmc.clock.delta).extractLsb' 16 16 = s.dmc.clock.cmp →
      t.dmc = { s.dmc with clock := { s.dmc.clock with clk := s.dmc.clock.clk + s.dmc.clock.delta } } ∧
      t.status = s.status) ∧
    (s.dmc.clock.delta = 0 → s.dmc.clock.Serviced → t.dmc = s.dmc ∧ t.status = s.status)

/-- R201, R302: an effective clock that fetches where no memory answers sets STATUS.DMCF, stops the DMC, keeps out and cur, and
the TICK completes. -/
def Obligations.TickRecordsADmcFetchFault : Prop :=
  ∀ s : State, s.tri.sample.toNat ≤ 15 →
    (s.dmc.clock.clk + s.dmc.clock.delta).extractLsb' 16 16 ≠ s.dmc.clock.cmp → s.dmc.bitOffset = 0 →
    memRead s.sampleMem (s.dmc.addr + s.dmc.offset.setWidth 32) = none →
    ∃ t, exec .tick s = .next t ∧ t.status = { ill := s.status.ill, dmcf := true } ∧
      t.outputs = .dacWrite t.dacL t.dacR :: s.outputs ∧
      t.dmc =
        { s.dmc with
          offset := 0, bitOffset := 0
          clock :=
            { clk := if s.cfg.val.dmcResetClearsClock then 0 else s.dmc.clock.clk + s.dmc.clock.delta
              cmp := if s.cfg.val.dmcResetClearsClock then 0
                else (s.dmc.clock.clk + s.dmc.clock.delta).extractLsb' 16 16
              delta := 0 } }

/-- R196, R197: an effective clock takes one bit (FULL) or two (HALF) of its byte b from bitOffset up, least significant first, and
moves the level by 2 or by 4 or by 0 with saturation to [0, 127]; the byte is fetched when bitOffset is 0. In HALF mode at bitOffset
7, which R25 excludes, that the bit above bit 7 is 0 is the model's reading (log entry 12). -/
def Obligations.TickAppliesTheDmcDelta : Prop :=
  ∀ (s t : State) (b : Byte), exec .tick s = .next t →
    (s.dmc.clock.clk + s.dmc.clock.delta).extractLsb' 16 16 ≠ s.dmc.clock.cmp →
    (if s.dmc.bitOffset = 0 then memRead s.sampleMem (s.dmc.addr + s.dmc.offset.setWidth 32) = some b else b = s.dmc.cur) →
    let lo := b.getLsbD s.dmc.bitOffset.toNat
    let hi := b.getLsbD (s.dmc.bitOffset.toNat + 1)
    t.status = s.status ∧ t.dmc.cur = b ∧
    t.dmc.out.toNat =
      match s.cfg.val.dmcMode with
      | .full => if lo then min (s.dmc.out.toNat + 2) 127 else s.dmc.out.toNat - 2
      | .half =>
        if lo && hi then min (s.dmc.out.toNat + 4) 127 else if lo || hi then s.dmc.out.toNat else s.dmc.out.toNat - 4

/-- R198: the advance of the stream position at an effective clock that has its byte: after the last bit of a byte the offset
advances, and on reaching len it wraps to 0 and a stream that does not loop stops. In HALF mode at bitOffset 7, which R25 excludes,
that bitOffset advances to 1 is the model's reading (log entry 12). -/
def Obligations.TickAdvancesTheDmcPosition : Prop :=
  ∀ s t : State, exec .tick s = .next t →
    (s.dmc.clock.clk + s.dmc.clock.delta).extractLsb' 16 16 ≠ s.dmc.clock.cmp →
    (s.dmc.bitOffset = 0 → memRead s.sampleMem (s.dmc.addr + s.dmc.offset.setWidth 32) ≠ none) →
    let clk := s.dmc.clock.clk + s.dmc.clock.delta
    let last : BitVec 3 := if s.cfg.val.dmcMode = .full then 7 else 6
    let size : BitVec 3 := if s.cfg.val.dmcMode = .full then 1 else 2
    t.dmc.addr = s.dmc.addr ∧ t.dmc.len = s.dmc.len ∧ t.dmc.loop = s.dmc.loop ∧
    (s.dmc.bitOffset ≠ last →
      t.dmc.bitOffset = s.dmc.bitOffset + size ∧ t.dmc.offset = s.dmc.offset ∧
      t.dmc.clock = { clk := clk, cmp := clk.extractLsb' 16 16, delta := s.dmc.clock.delta }) ∧
    (s.dmc.bitOffset = last → s.dmc.offset + 1 ≠ s.dmc.len →
      t.dmc.bitOffset = 0 ∧ t.dmc.offset = s.dmc.offset + 1 ∧
      t.dmc.clock = { clk := clk, cmp := clk.extractLsb' 16 16, delta := s.dmc.clock.delta }) ∧
    (s.dmc.bitOffset = last → s.dmc.offset + 1 = s.dmc.len →
      t.dmc.bitOffset = 0 ∧ t.dmc.offset = 0 ∧
      t.dmc.clock =
        { clk := if s.cfg.val.dmcResetClearsClock then 0 else clk
          cmp := if s.cfg.val.dmcResetClearsClock then 0 else clk.extractLsb' 16 16
          delta := if s.dmc.loop then s.dmc.clock.delta else 0 })

/-- R220, R223, R224, R225, R227, R229: the DAC values of a TICK are the mix of the channel levels after their steps, exact sums of
two table entries in LUT mode, and are emitted. -/
def Obligations.TickMixesTheLevels : Prop :=
  ∀ s t : State, exec .tick s = .next t →
    let c := s.cfg.val
    let p1 : BitVec 4 :=
      if t.enable.getLsbD 0 = true ∧ t.pulse1.acc.extractLsb' 8 8 < t.pulse1.duty then t.pulse1.vol else 0
    let p2 : BitVec 4 :=
      if t.enable.getLsbD 1 = true ∧ t.pulse2.acc.extractLsb' 8 8 < t.pulse2.duty then t.pulse2.vol else 0
    let tr := if t.enable.getLsbD 2 then t.tri.sample.toNat else 0
    let n := if t.enable.getLsbD 3 then t.noise.bit.toNat * t.noise.vol.toNat else 0
    let d := if t.enable.getLsbD 4 then t.dmc.out.toNat else 0
    ∃ (iL iR : Fin 31) (j : Fin 203),
      j.val = 3 * tr + 2 * n + d ∧
      (c.stereoMode = .mono → iL.val = p1.toNat + p2.toNat ∧ iR.val = p1.toNat + p2.toNat) ∧
      (c.stereoMode = .stereo → iL = (c.pulseBlendL[p1.toNat])[p2.toNat] ∧ iR = (c.pulseBlendR[p1.toNat])[p2.toNat]) ∧
      (c.mixMode = .lut →
        t.dacL.toNat = c.pulseLut[iL].toNat + c.tndLut[j].toNat ∧ t.dacR.toNat = c.pulseLut[iR].toNat + c.tndLut[j].toNat) ∧
      (c.mixMode = .linear → t.dacL = (c.linearMix[iL])[j] ∧ t.dacR = (c.linearMix[iR])[j]) ∧
      t.outputs = .dacWrite t.dacL t.dacR :: s.outputs

/-- R242: TICK's counter step. -/
def Obligations.TickCountsTime : Prop :=
  ∀ s t : State, exec .tick s = .next t → s.msFrac.toNat < 1000 →
    let us := s.cfg.val.tickUs.val
    t.micros.toNat = (s.micros.toNat + us) % 2 ^ 32 ∧
    (1000 ≤ s.msFrac.toNat + us →
      t.msFrac.toNat = s.msFrac.toNat + us - 1000 ∧ t.millis.toNat = (s.millis.toNat + 1) % 2 ^ 32) ∧
    (s.msFrac.toNat + us < 1000 → t.msFrac.toNat = s.msFrac.toNat + us ∧ t.millis = s.millis)

/-! ### Laws of the channels -/

/-- R111: a pulse channel with a nonzero volume is high on exactly duty of the 256 phase values, and gives 0 on the others. -/
def Obligations.PulseIsHighOnDutyPhases : Prop :=
  ∀ (p : Pulse) (lo : BitVec 8), p.vol ≠ 0 →
    ((List.range 256).countP fun k => pulseOut { p with acc := BitVec.ofNat 8 k ++ lo } == p.vol) = p.duty.toNat ∧
    ∀ k, k < 256 → pulseOut { p with acc := BitVec.ofNat 8 k ++ lo } = if k < p.duty.toNat then p.vol else 0

/-- R119(a): after n TICKs a pulse accumulator has advanced by n times its increment, modulo 2^16. -/
def Obligations.PulsePhaseAfterTicks : Prop :=
  ∀ (n : Nat) (s : State), s.tri.sample.toNat ≤ 15 →
    ∃ t, perform (ticks n) s = .next t ∧
      t.pulse1.acc.toNat = (s.pulse1.acc.toNat + n * s.pulse1.delta.toNat) % 2 ^ 16 ∧
      t.pulse2.acc.toNat = (s.pulse2.acc.toNat + n * s.pulse2.delta.toNat) % 2 ^ 16

/-- R243: the counters n TICKs after RESET. -/
def Obligations.CountersAfterTicks : Prop :=
  ∀ (n : Nat) (s : State),
    ∃ t, perform (.reset :: ticks n) s = .next t ∧
      t.micros.toNat = n * s.cfg.val.tickUs.val % 2 ^ 32 ∧
      t.millis.toNat = n * s.cfg.val.tickUs.val / 1000 % 2 ^ 32 ∧
      t.msFrac.toNat = n * s.cfg.val.tickUs.val % 1000

/-- R139(b) and (c): k TICKs while ungated leave the sample at max(0, S - k) and the accumulator where it was. -/
def Obligations.UngatedTriangleDecays : Prop :=
  ∀ (k : Nat) (s : State), s.tri.gate = false → s.tri.sample.toNat ≤ 15 →
    ∃ t, perform (ticks k) s = .next t ∧ t.tri.sample.toNat = s.tri.sample.toNat - k ∧ t.tri.acc = s.tri.acc ∧
      t.tri.gate = false

/-- R139(a): gating an ungated triangle puts its phase at the midpoint, and the first TICK after it samples TRI_LUT[0x80],
whatever the increment. -/
def Obligations.RegatedTriangleStartsAtMidpoint : Prop :=
  ∀ s : State, s.tri.gate = false →
    (∃ t, perform [encode (.wrTgate true)] s = .next t ∧ t.tri.acc = 0x8000 ∧ t.tri.gate = true) ∧
    (∃ t, perform [encode (.wrTgate true), .tick] s = .next t ∧ t.tri.sample = s.cfg.val.triLut[0x80] ∧
      t.tri.acc = 0x8000 + s.tri.delta)

/-- R153 with R25: a nonzero seed stays nonzero at every step but WR.NSEED 0. -/
def Obligations.NonzeroSeedStaysNonzero : Prop :=
  ∀ s t : State, s.noise.seed ≠ 0 → s.inputs.head? ≠ some (encode (.wrNseed 0)) → step s = .next t → t.noise.seed ≠ 0

/-- R153: a zero seed stays zero and puts out 0; a shift is invertible, the old seed being recovered from the new one; so a
nonzero seed never becomes 0 by shifting, under any mode at each shift. -/
def Obligations.LfsrShiftIsInvertible : Prop :=
  (∀ (k : Nat) (n : Noise), n.seed = 0 → (lfsrShifts k n).seed = 0 ∧ (0 < k → (lfsrShifts k n).bit = 0)) ∧
  (∀ n : Noise,
    let m := (lfsrShift n).seed
    let tap := if n.short then 6 else 1
    n.seed = m.extractLsb' 0 14 ++ BitVec.ofBool (m.getLsbD 14 ^^ m.getLsbD (tap - 1))) ∧
  (∀ n : Noise, n.seed ≠ 0 → (lfsrShift n).seed ≠ 0)

/-- R166: the first 16 output bits and the first three seeds from seed 1 in long mode, and the period 93 in short mode. -/
def Obligations.LfsrSequenceFromSeedOne : Prop :=
  let long : Noise := { clock := { clk := 0, cmp := 0, delta := 0 }, short := false, seed := 1, vol := 0, bit := 0 }
  let short : Noise := { clock := { clk := 0, cmp := 0, delta := 0 }, short := true, seed := 1, vol := 0, bit := 0 }
  (List.range 16).map (fun k => (lfsrShifts (k + 1) long).bit) = [1, 0, 0, 0, 0, 0, 0, 0, 0, 0, 0, 0, 0, 0, 0, 1] ∧
  (List.range 3).map (fun k => (lfsrShifts (k + 1) long).seed) = [0x4000, 0x2000, 0x1000] ∧
  (lfsrShifts 93 short).seed = 1 ∧ ∀ k ∈ List.range 92, (lfsrShifts (k + 1) short).seed ≠ 1

/-- R104: a bit clock with 0 < delta < 2^16 makes floor((x + n·delta) / 2^16) effective clocks in n ticks, x being its low half. -/
def Obligations.EffectiveClocksFollowTheRate : Prop :=
  ∀ (n : Nat) (k : BitClock), k.Serviced → 0 < k.delta.toNat → k.delta.toNat < 2 ^ 16 →
    effectiveClocks n k = (k.clk.toNat % 2 ^ 16 + n * k.delta.toNat) / 2 ^ 16

/-- R197: the clamp is saturation to [0, 127] for every level and every delta of the maps. -/
def Obligations.DmcClampSaturates : Prop :=
  ∀ out : BitVec 7, ∀ d ∈ [(-4 : Int), -2, 0, 2, 4],
    ((dmcClamp out d).toNat : Int) = max 0 (min 127 (out.toNat + d))

/-- R202(a): a stream of N mapped bytes that does not loop performs exactly N × (8 / STEP) effective clocks with its rate kept, then
has rate 0 and position 0, and records no fault. -/
def Obligations.DmcPlaysTheWholeBufferOnce : Prop :=
  ∀ s : State, s.dmc.offset = 0 → s.dmc.bitOffset = 0 → s.dmc.loop = false → s.dmc.len ≠ 0 →
    (∀ k, k < s.dmc.len.toNat → (memRead s.sampleMem (s.dmc.addr + BitVec.ofNat 32 k)).isSome = true) →
    let clocks := s.dmc.len.toNat * (if s.cfg.val.dmcMode = .full then 8 else 4)
    (∀ j, j < clocks → (dmcClocks j s).dmc.clock.delta = s.dmc.clock.delta) ∧
    (dmcClocks clocks s).dmc.clock.delta = 0 ∧ (dmcClocks clocks s).dmc.offset = 0 ∧
    (dmcClocks clocks s).dmc.bitOffset = 0 ∧ (dmcClocks clocks s).status = s.status

/-- R202(b): a looping stream of N mapped bytes is back at its start, with its rate, after N × (8 / STEP) effective clocks, having
changed nothing but its level, its byte and, when DMC_RESET_CLEARS_CLOCK is set, its cleared clock. -/
def Obligations.DmcLoopReturnsToItsStart : Prop :=
  ∀ s : State, s.dmc.offset = 0 → s.dmc.bitOffset = 0 → s.dmc.loop = true → s.dmc.len ≠ 0 →
    (∀ k, k < s.dmc.len.toNat → (memRead s.sampleMem (s.dmc.addr + BitVec.ofNat 32 k)).isSome = true) →
    let t := dmcClocks (s.dmc.len.toNat * (if s.cfg.val.dmcMode = .full then 8 else 4)) s
    t = { s with dmc :=
      { s.dmc with
        out := t.dmc.out
        cur := t.dmc.cur
        clock := if s.cfg.val.dmcResetClearsClock then { s.dmc.clock with clk := 0, cmp := 0 } else s.dmc.clock } }

/-! ### Whole-machine rules -/

/-- R10, R53, R331: no step changes the configuration or the sample memory. -/
def Obligations.StepsKeepConfigurationAndMemory : Prop :=
  ∀ s t : State, step s = .next t → t.cfg = s.cfg ∧ t.sampleMem = s.sampleMem

/-- R303: the fault bits are sticky: only RESET clears them. -/
def Obligations.FaultBitsAreSticky : Prop :=
  ∀ s t : State, step s = .next t → s.inputs.head? ≠ some .reset → s.inputs.head? ≠ some .resetDuringTick →
    (s.status.ill = true → t.status.ill = true) ∧ (s.status.dmcf = true → t.status.dmcf = true)

/-- R25: every step keeps the invariants. The canonical form of the sample memory among them is the model's (log entry 3). -/
def Obligations.StepKeepsTheInvariants : Prop :=
  ∀ s t : State, s.Inv → step s = .next t → t.Inv

/-- R25, R330: the reset state meets the invariants. That its sample memory lists nothing, and the canonical form that this memory
has, are the model's choices (log entry 3) and follow from neither rule. -/
def Obligations.ResetMeetsTheInvariants : Prop :=
  State.reset.Inv

/-- R228, R240, R300: from a state that meets the invariants, every run of operations answers a next state; no operation is
refused, stops or faults, whatever the interleaving of commands and TICKs (R58; the list is the model's carrier, log entry 4). The
canonical form of the sample memory among the invariants is the model's (log entry 3). -/
def Obligations.RunsNeverStop : Prop :=
  ∀ (l : List Input) (s : State), s.Inv → ∃ t, perform l s = .next t ∧ t.Inv ∧ t.inputs = []

/-- R56: a read changes nothing but what it returns. -/
def Obligations.ReadsOnlyReturnData : Prop :=
  ∀ i : Instr, isRead i = true → ∀ s : State, ∃ v, exec i s = .next { s with outputs := .readData v :: s.outputs }

/-- R260 and R16: no TICK reads region or the DMC staging registers. -/
def Obligations.TickReadsNeitherRegionNorStaging : Prop :=
  ∀ (s t : State) (r : Region) (g : DmcStage), exec .tick s = .next t →
    exec .tick { s with region := r, stage := g } = .next { t with region := r, stage := g }

/-- R221: the enable flags gate only the levels into the mixer; every channel and counter advances as it does without them. -/
def Obligations.EnableOnlyGatesTheMix : Prop :=
  ∀ (s t u : State) (e : BitVec 5), exec .tick s = .next t → exec .tick { s with enable := e } = .next u →
    u = { t with enable := e, dacL := u.dacL, dacR := u.dacR, outputs := .dacWrite u.dacL u.dacR :: s.outputs }

/-- The "written by" columns of R12 to R16: a channel field changes only by its writers; RESET writes every field (R330). -/
def Obligations.ChannelFieldsChangeOnlyByTheirWriters : Prop :=
  ∀ (i : Instr) (s t : State), exec i s = .next t → i ≠ .reset →
    (t.pulse1.acc ≠ s.pulse1.acc → i = .tick) ∧ (t.pulse2.acc ≠ s.pulse2.acc → i = .tick) ∧
    (t.pulse1.delta ≠ s.pulse1.delta → ∃ v, i = .wrPdelta .pulse1 v) ∧
    (t.pulse2.delta ≠ s.pulse2.delta → ∃ v, i = .wrPdelta .pulse2 v) ∧
    (t.pulse1.duty ≠ s.pulse1.duty → ∃ v, i = .wrPduty .pulse1 v) ∧
    (t.pulse2.duty ≠ s.pulse2.duty → ∃ v, i = .wrPduty .pulse2 v) ∧
    (t.pulse1.vol ≠ s.pulse1.vol → ∃ v, i = .wrPvol .pulse1 v) ∧
    (t.pulse2.vol ≠ s.pulse2.vol → ∃ v, i = .wrPvol .pulse2 v) ∧
    (t.tri.acc ≠ s.tri.acc → i = .tick ∨ i = .wrTgate true) ∧ (t.tri.delta ≠ s.tri.delta → ∃ v, i = .wrTdelta v) ∧
    (t.tri.gate ≠ s.tri.gate → ∃ b, i = .wrTgate b) ∧ (t.tri.sample ≠ s.tri.sample → i = .tick) ∧
    (t.noise.clock.clk ≠ s.noise.clock.clk → i = .tick) ∧ (t.noise.clock.cmp ≠ s.noise.clock.cmp → i = .tick) ∧
    (t.noise.clock.delta ≠ s.noise.clock.delta → (∃ v, i = .wrNdelta v) ∨ ∃ k, i = .wrNrate k) ∧
    (t.noise.short ≠ s.noise.short → ∃ b, i = .wrNmode b) ∧
    (t.noise.seed ≠ s.noise.seed → i = .tick ∨ ∃ v, i = .wrNseed v) ∧
    (t.noise.vol ≠ s.noise.vol → ∃ v, i = .wrNvol v) ∧ (t.noise.bit ≠ s.noise.bit → i = .tick) ∧
    (t.dmc.clock ≠ s.dmc.clock → i = .tick ∨ i = .wrDplay ∨ i = .wrDkill) ∧
    (t.dmc.offset ≠ s.dmc.offset → i = .tick ∨ i = .wrDplay ∨ i = .wrDkill) ∧
    (t.dmc.bitOffset ≠ s.dmc.bitOffset → i = .tick ∨ i = .wrDplay ∨ i = .wrDkill) ∧
    (t.dmc.cur ≠ s.dmc.cur → i = .tick) ∧ (t.dmc.addr ≠ s.dmc.addr → i = .wrDplay) ∧
    (t.dmc.len ≠ s.dmc.len → i = .wrDplay) ∧ (t.dmc.loop ≠ s.dmc.loop → i = .wrDplay) ∧
    (t.dmc.out ≠ s.dmc.out → i = .tick ∨ i = .wrDplay) ∧
    (t.stage.addr ≠ s.stage.addr → ∃ v, i = .wrDaddr v) ∧ (t.stage.len ≠ s.stage.len → ∃ v, i = .wrDlen v) ∧
    ((t.stage.rate ≠ s.stage.rate ∨ t.stage.loop ≠ s.stage.loop ∨ t.stage.seed ≠ s.stage.seed) →
      ∃ r l g, i = .wrDcfg r l g)

/-- The "written by" columns of R17 to R20: a global field changes only by its writers; RESET writes every field (R330). -/
def Obligations.GlobalFieldsChangeOnlyByTheirWriters : Prop :=
  ∀ (i : Instr) (s t : State), exec i s = .next t → i ≠ .reset →
    (t.enable ≠ s.enable → ∃ v, i = .wrEnable v) ∧ (t.dacL ≠ s.dacL → i = .tick) ∧ (t.dacR ≠ s.dacR → i = .tick) ∧
    (t.region ≠ s.region → ∃ r, i = .wrRegion r) ∧ (t.micros ≠ s.micros → i = .tick) ∧
    (t.millis ≠ s.millis → i = .tick) ∧ (t.msFrac ≠ s.msFrac → i = .tick) ∧ t.status.ill = s.status.ill ∧
    (t.status.dmcf ≠ s.status.dmcf → i = .tick)

/-- R6: a configuration is admitted exactly when every TRI_LUT entry is at most 15 and every sum of a PULSE_LUT and a TND_LUT entry
is at most 255 (the other checks hold by the types of the fields). -/
def Obligations.IllFormedConfigurationsAreRefused : Prop :=
  ∀ c : Config, c.accept.isSome = true ↔
    (∀ i : Fin 256, c.triLut[i].toNat ≤ 15) ∧ ∀ (i : Fin 31) (j : Fin 203), c.pulseLut[i].toNat + c.tndLut[j].toNat ≤ 255

/-- R79 with R60 and R189: PLAY with fields in range starts the stream it names, whatever was staged or playing before, and
changes no other channel. -/
def Obligations.PlayStartsTheStream : Prop :=
  ∀ (sampleRate : Nat) (addr : Data) (len : BitVec 16) (rate : BitVec 4) (seed : BitVec 7) (loop : Bool) (s : State),
    ∃ t, perform (assemble (expandPseudo sampleRate
        (.play addr (len.setWidth 32) (rate.setWidth 32) (seed.setWidth 32) (if loop then 1 else 0)))) s = .next t ∧
      t.dmc.addr = addr ∧ t.dmc.len = len ∧ t.dmc.loop = loop ∧ t.dmc.out = seed ∧ t.dmc.offset = 0 ∧
      t.dmc.bitOffset = 0 ∧
      (t.dmc.clock.delta = match s.region with
        | .ntsc => s.cfg.val.dmcRateNtsc[rate.toNat]
        | .pal => s.cfg.val.dmcRatePal[rate.toNat]) ∧
      t.pulse1 = s.pulse1 ∧ t.pulse2 = s.pulse2 ∧ t.tri = s.tri ∧ t.noise = s.noise ∧ t.status = s.status
end

