-- ==== Sys2Proof/Laws/State.lean ====
section
/-! SUPPORT. One lemma for each field of State and each named update of it, so that no proof unfolds a record update. -/

namespace Sys2Proof.Machine

@[simp] theorem State.output_pulse1 (s : State) (o : Output) : (s.output o).pulse1 = s.pulse1 := rfl
@[simp] theorem State.output_pulse2 (s : State) (o : Output) : (s.output o).pulse2 = s.pulse2 := rfl
@[simp] theorem State.output_tri (s : State) (o : Output) : (s.output o).tri = s.tri := rfl
@[simp] theorem State.output_noise (s : State) (o : Output) : (s.output o).noise = s.noise := rfl
@[simp] theorem State.output_dmc (s : State) (o : Output) : (s.output o).dmc = s.dmc := rfl
@[simp] theorem State.output_stage (s : State) (o : Output) : (s.output o).stage = s.stage := rfl
@[simp] theorem State.output_enable (s : State) (o : Output) : (s.output o).enable = s.enable := rfl
@[simp] theorem State.output_dacL (s : State) (o : Output) : (s.output o).dacL = s.dacL := rfl
@[simp] theorem State.output_dacR (s : State) (o : Output) : (s.output o).dacR = s.dacR := rfl
@[simp] theorem State.output_region (s : State) (o : Output) : (s.output o).region = s.region := rfl
@[simp] theorem State.output_micros (s : State) (o : Output) : (s.output o).micros = s.micros := rfl
@[simp] theorem State.output_millis (s : State) (o : Output) : (s.output o).millis = s.millis := rfl
@[simp] theorem State.output_msFrac (s : State) (o : Output) : (s.output o).msFrac = s.msFrac := rfl
@[simp] theorem State.output_status (s : State) (o : Output) : (s.output o).status = s.status := rfl
@[simp] theorem State.output_cfg (s : State) (o : Output) : (s.output o).cfg = s.cfg := rfl
@[simp] theorem State.output_sampleMem (s : State) (o : Output) : (s.output o).sampleMem = s.sampleMem := rfl
@[simp] theorem State.output_inputs (s : State) (o : Output) : (s.output o).inputs = s.inputs := rfl
@[simp] theorem State.output_outputs (s : State) (o : Output) : (s.output o).outputs = o :: s.outputs := rfl

@[simp] theorem State.returnRead_pulse1 (s : State) (v : Data) : (s.returnRead v).pulse1 = s.pulse1 := rfl
@[simp] theorem State.returnRead_pulse2 (s : State) (v : Data) : (s.returnRead v).pulse2 = s.pulse2 := rfl
@[simp] theorem State.returnRead_tri (s : State) (v : Data) : (s.returnRead v).tri = s.tri := rfl
@[simp] theorem State.returnRead_noise (s : State) (v : Data) : (s.returnRead v).noise = s.noise := rfl
@[simp] theorem State.returnRead_dmc (s : State) (v : Data) : (s.returnRead v).dmc = s.dmc := rfl
@[simp] theorem State.returnRead_stage (s : State) (v : Data) : (s.returnRead v).stage = s.stage := rfl
@[simp] theorem State.returnRead_enable (s : State) (v : Data) : (s.returnRead v).enable = s.enable := rfl
@[simp] theorem State.returnRead_dacL (s : State) (v : Data) : (s.returnRead v).dacL = s.dacL := rfl
@[simp] theorem State.returnRead_dacR (s : State) (v : Data) : (s.returnRead v).dacR = s.dacR := rfl
@[simp] theorem State.returnRead_region (s : State) (v : Data) : (s.returnRead v).region = s.region := rfl
@[simp] theorem State.returnRead_micros (s : State) (v : Data) : (s.returnRead v).micros = s.micros := rfl
@[simp] theorem State.returnRead_millis (s : State) (v : Data) : (s.returnRead v).millis = s.millis := rfl
@[simp] theorem State.returnRead_msFrac (s : State) (v : Data) : (s.returnRead v).msFrac = s.msFrac := rfl
@[simp] theorem State.returnRead_status (s : State) (v : Data) : (s.returnRead v).status = s.status := rfl
@[simp] theorem State.returnRead_cfg (s : State) (v : Data) : (s.returnRead v).cfg = s.cfg := rfl
@[simp] theorem State.returnRead_sampleMem (s : State) (v : Data) : (s.returnRead v).sampleMem = s.sampleMem := rfl
@[simp] theorem State.returnRead_inputs (s : State) (v : Data) : (s.returnRead v).inputs = s.inputs := rfl
@[simp] theorem State.returnRead_outputs (s : State) (v : Data) : (s.returnRead v).outputs = .readData v :: s.outputs := rfl

@[simp] theorem State.dacWrite_pulse1 (s : State) (l r : Byte) : (s.dacWrite l r).pulse1 = s.pulse1 := rfl
@[simp] theorem State.dacWrite_pulse2 (s : State) (l r : Byte) : (s.dacWrite l r).pulse2 = s.pulse2 := rfl
@[simp] theorem State.dacWrite_tri (s : State) (l r : Byte) : (s.dacWrite l r).tri = s.tri := rfl
@[simp] theorem State.dacWrite_noise (s : State) (l r : Byte) : (s.dacWrite l r).noise = s.noise := rfl
@[simp] theorem State.dacWrite_dmc (s : State) (l r : Byte) : (s.dacWrite l r).dmc = s.dmc := rfl
@[simp] theorem State.dacWrite_stage (s : State) (l r : Byte) : (s.dacWrite l r).stage = s.stage := rfl
@[simp] theorem State.dacWrite_enable (s : State) (l r : Byte) : (s.dacWrite l r).enable = s.enable := rfl
@[simp] theorem State.dacWrite_dacL (s : State) (l r : Byte) : (s.dacWrite l r).dacL = l := rfl
@[simp] theorem State.dacWrite_dacR (s : State) (l r : Byte) : (s.dacWrite l r).dacR = r := rfl
@[simp] theorem State.dacWrite_region (s : State) (l r : Byte) : (s.dacWrite l r).region = s.region := rfl
@[simp] theorem State.dacWrite_micros (s : State) (l r : Byte) : (s.dacWrite l r).micros = s.micros := rfl
@[simp] theorem State.dacWrite_millis (s : State) (l r : Byte) : (s.dacWrite l r).millis = s.millis := rfl
@[simp] theorem State.dacWrite_msFrac (s : State) (l r : Byte) : (s.dacWrite l r).msFrac = s.msFrac := rfl
@[simp] theorem State.dacWrite_status (s : State) (l r : Byte) : (s.dacWrite l r).status = s.status := rfl
@[simp] theorem State.dacWrite_cfg (s : State) (l r : Byte) : (s.dacWrite l r).cfg = s.cfg := rfl
@[simp] theorem State.dacWrite_sampleMem (s : State) (l r : Byte) : (s.dacWrite l r).sampleMem = s.sampleMem := rfl
@[simp] theorem State.dacWrite_inputs (s : State) (l r : Byte) : (s.dacWrite l r).inputs = s.inputs := rfl
@[simp] theorem State.dacWrite_outputs (s : State) (l r : Byte) : (s.dacWrite l r).outputs = .dacWrite l r :: s.outputs := rfl

@[simp] theorem State.raiseDmcFetchFault_pulse1 (s : State) : (s.raiseDmcFetchFault).pulse1 = s.pulse1 := rfl
@[simp] theorem State.raiseDmcFetchFault_pulse2 (s : State) : (s.raiseDmcFetchFault).pulse2 = s.pulse2 := rfl
@[simp] theorem State.raiseDmcFetchFault_tri (s : State) : (s.raiseDmcFetchFault).tri = s.tri := rfl
@[simp] theorem State.raiseDmcFetchFault_noise (s : State) : (s.raiseDmcFetchFault).noise = s.noise := rfl
@[simp] theorem State.raiseDmcFetchFault_dmc (s : State) : (s.raiseDmcFetchFault).dmc = dmcStop s.cfg.val s.dmc := rfl
@[simp] theorem State.raiseDmcFetchFault_stage (s : State) : (s.raiseDmcFetchFault).stage = s.stage := rfl
@[simp] theorem State.raiseDmcFetchFault_enable (s : State) : (s.raiseDmcFetchFault).enable = s.enable := rfl
@[simp] theorem State.raiseDmcFetchFault_dacL (s : State) : (s.raiseDmcFetchFault).dacL = s.dacL := rfl
@[simp] theorem State.raiseDmcFetchFault_dacR (s : State) : (s.raiseDmcFetchFault).dacR = s.dacR := rfl
@[simp] theorem State.raiseDmcFetchFault_region (s : State) : (s.raiseDmcFetchFault).region = s.region := rfl
@[simp] theorem State.raiseDmcFetchFault_micros (s : State) : (s.raiseDmcFetchFault).micros = s.micros := rfl
@[simp] theorem State.raiseDmcFetchFault_millis (s : State) : (s.raiseDmcFetchFault).millis = s.millis := rfl
@[simp] theorem State.raiseDmcFetchFault_msFrac (s : State) : (s.raiseDmcFetchFault).msFrac = s.msFrac := rfl
@[simp] theorem State.raiseDmcFetchFault_status (s : State) : (s.raiseDmcFetchFault).status = s.status.setDmcf := rfl
@[simp] theorem State.raiseDmcFetchFault_cfg (s : State) : (s.raiseDmcFetchFault).cfg = s.cfg := rfl
@[simp] theorem State.raiseDmcFetchFault_sampleMem (s : State) : (s.raiseDmcFetchFault).sampleMem = s.sampleMem := rfl
@[simp] theorem State.raiseDmcFetchFault_inputs (s : State) : (s.raiseDmcFetchFault).inputs = s.inputs := rfl
@[simp] theorem State.raiseDmcFetchFault_outputs (s : State) : (s.raiseDmcFetchFault).outputs = s.outputs := rfl

@[simp] theorem placeInput_pulse1 (s : State) (x : Input) : (placeInput s x).pulse1 = s.pulse1 := rfl
@[simp] theorem placeInput_pulse2 (s : State) (x : Input) : (placeInput s x).pulse2 = s.pulse2 := rfl
@[simp] theorem placeInput_tri (s : State) (x : Input) : (placeInput s x).tri = s.tri := rfl
@[simp] theorem placeInput_noise (s : State) (x : Input) : (placeInput s x).noise = s.noise := rfl
@[simp] theorem placeInput_dmc (s : State) (x : Input) : (placeInput s x).dmc = s.dmc := rfl
@[simp] theorem placeInput_stage (s : State) (x : Input) : (placeInput s x).stage = s.stage := rfl
@[simp] theorem placeInput_enable (s : State) (x : Input) : (placeInput s x).enable = s.enable := rfl
@[simp] theorem placeInput_dacL (s : State) (x : Input) : (placeInput s x).dacL = s.dacL := rfl
@[simp] theorem placeInput_dacR (s : State) (x : Input) : (placeInput s x).dacR = s.dacR := rfl
@[simp] theorem placeInput_region (s : State) (x : Input) : (placeInput s x).region = s.region := rfl
@[simp] theorem placeInput_micros (s : State) (x : Input) : (placeInput s x).micros = s.micros := rfl
@[simp] theorem placeInput_millis (s : State) (x : Input) : (placeInput s x).millis = s.millis := rfl
@[simp] theorem placeInput_msFrac (s : State) (x : Input) : (placeInput s x).msFrac = s.msFrac := rfl
@[simp] theorem placeInput_status (s : State) (x : Input) : (placeInput s x).status = s.status := rfl
@[simp] theorem placeInput_cfg (s : State) (x : Input) : (placeInput s x).cfg = s.cfg := rfl
@[simp] theorem placeInput_sampleMem (s : State) (x : Input) : (placeInput s x).sampleMem = s.sampleMem := rfl
@[simp] theorem placeInput_inputs (s : State) (x : Input) : (placeInput s x).inputs = x :: s.inputs := rfl
@[simp] theorem placeInput_outputs (s : State) (x : Input) : (placeInput s x).outputs = s.outputs := rfl

@[simp] theorem State.setPulse_pulse1_self (s : State) (p : Pulse) : (s.setPulse .pulse1 p).pulse1 = p := rfl
@[simp] theorem State.setPulse_pulse1_other (s : State) (p : Pulse) : (s.setPulse .pulse2 p).pulse1 = s.pulse1 := rfl
@[simp] theorem State.setPulse_pulse2_self (s : State) (p : Pulse) : (s.setPulse .pulse2 p).pulse2 = p := rfl
@[simp] theorem State.setPulse_pulse2_other (s : State) (p : Pulse) : (s.setPulse .pulse1 p).pulse2 = s.pulse2 := rfl
@[simp] theorem State.setPulse_tri (s : State) (c : PulseChan) (p : Pulse) : (s.setPulse c p).tri = s.tri := by
  cases c <;> rfl
@[simp] theorem State.setPulse_noise (s : State) (c : PulseChan) (p : Pulse) : (s.setPulse c p).noise = s.noise := by
  cases c <;> rfl
@[simp] theorem State.setPulse_dmc (s : State) (c : PulseChan) (p : Pulse) : (s.setPulse c p).dmc = s.dmc := by
  cases c <;> rfl
@[simp] theorem State.setPulse_stage (s : State) (c : PulseChan) (p : Pulse) : (s.setPulse c p).stage = s.stage := by
  cases c <;> rfl
@[simp] theorem State.setPulse_enable (s : State) (c : PulseChan) (p : Pulse) : (s.setPulse c p).enable = s.enable := by
  cases c <;> rfl
@[simp] theorem State.setPulse_dacL (s : State) (c : PulseChan) (p : Pulse) : (s.setPulse c p).dacL = s.dacL := by
  cases c <;> rfl
@[simp] theorem State.setPulse_dacR (s : State) (c : PulseChan) (p : Pulse) : (s.setPulse c p).dacR = s.dacR := by
  cases c <;> rfl
@[simp] theorem State.setPulse_region (s : State) (c : PulseChan) (p : Pulse) : (s.setPulse c p).region = s.region := by
  cases c <;> rfl
@[simp] theorem State.setPulse_micros (s : State) (c : PulseChan) (p : Pulse) : (s.setPulse c p).micros = s.micros := by
  cases c <;> rfl
@[simp] theorem State.setPulse_millis (s : State) (c : PulseChan) (p : Pulse) : (s.setPulse c p).millis = s.millis := by
  cases c <;> rfl
@[simp] theorem State.setPulse_msFrac (s : State) (c : PulseChan) (p : Pulse) : (s.setPulse c p).msFrac = s.msFrac := by
  cases c <;> rfl
@[simp] theorem State.setPulse_status (s : State) (c : PulseChan) (p : Pulse) : (s.setPulse c p).status = s.status := by
  cases c <;> rfl
@[simp] theorem State.setPulse_cfg (s : State) (c : PulseChan) (p : Pulse) : (s.setPulse c p).cfg = s.cfg := by
  cases c <;> rfl
@[simp] theorem State.setPulse_sampleMem (s : State) (c : PulseChan) (p : Pulse) : (s.setPulse c p).sampleMem = s.sampleMem := by
  cases c <;> rfl
@[simp] theorem State.setPulse_inputs (s : State) (c : PulseChan) (p : Pulse) : (s.setPulse c p).inputs = s.inputs := by
  cases c <;> rfl
@[simp] theorem State.setPulse_outputs (s : State) (c : PulseChan) (p : Pulse) : (s.setPulse c p).outputs = s.outputs := by
  cases c <;> rfl

/-- Writing a pulse channel and reading it back. -/
@[simp] theorem State.pulse_setPulse (s : State) (c : PulseChan) (p : Pulse) : (s.setPulse c p).pulse c = p := by
  cases c <;> rfl

/-- Writing a pulse channel leaves the other one alone. -/
theorem State.pulse_setPulse_ne (s : State) (c e : PulseChan) (p : Pulse) (h : e ≠ c) :
    (s.setPulse c p).pulse e = s.pulse e := by
  cases c <;> cases e <;> first | rfl | exact absurd rfl h

/-- Raising Illegal on a write only sets STATUS.ILL. -/
theorem State.raiseIllegal_write (s : State) :
    s.raiseIllegal false = { s with status := { s.status with ill := true } } := rfl

/-- Raising Illegal on a read sets STATUS.ILL and returns 0. -/
theorem State.raiseIllegal_read (s : State) :
    s.raiseIllegal true = { s with status := { s.status with ill := true }, outputs := .readData 0 :: s.outputs } := rfl

@[simp] theorem State.raiseIllegal_pulse1 (s : State) (b : Bool) : (s.raiseIllegal b).pulse1 = s.pulse1 := by
  cases b <;> rfl
@[simp] theorem State.raiseIllegal_pulse2 (s : State) (b : Bool) : (s.raiseIllegal b).pulse2 = s.pulse2 := by
  cases b <;> rfl
@[simp] theorem State.raiseIllegal_tri (s : State) (b : Bool) : (s.raiseIllegal b).tri = s.tri := by
  cases b <;> rfl
@[simp] theorem State.raiseIllegal_noise (s : State) (b : Bool) : (s.raiseIllegal b).noise = s.noise := by
  cases b <;> rfl
@[simp] theorem State.raiseIllegal_dmc (s : State) (b : Bool) : (s.raiseIllegal b).dmc = s.dmc := by
  cases b <;> rfl
@[simp] theorem State.raiseIllegal_stage (s : State) (b : Bool) : (s.raiseIllegal b).stage = s.stage := by
  cases b <;> rfl
@[simp] theorem State.raiseIllegal_enable (s : State) (b : Bool) : (s.raiseIllegal b).enable = s.enable := by
  cases b <;> rfl
@[simp] theorem State.raiseIllegal_dacL (s : State) (b : Bool) : (s.raiseIllegal b).dacL = s.dacL := by
  cases b <;> rfl
@[simp] theorem State.raiseIllegal_dacR (s : State) (b : Bool) : (s.raiseIllegal b).dacR = s.dacR := by
  cases b <;> rfl
@[simp] theorem State.raiseIllegal_region (s : State) (b : Bool) : (s.raiseIllegal b).region = s.region := by
  cases b <;> rfl
@[simp] theorem State.raiseIllegal_micros (s : State) (b : Bool) : (s.raiseIllegal b).micros = s.micros := by
  cases b <;> rfl
@[simp] theorem State.raiseIllegal_millis (s : State) (b : Bool) : (s.raiseIllegal b).millis = s.millis := by
  cases b <;> rfl
@[simp] theorem State.raiseIllegal_msFrac (s : State) (b : Bool) : (s.raiseIllegal b).msFrac = s.msFrac := by
  cases b <;> rfl
@[simp] theorem State.raiseIllegal_status (s : State) (b : Bool) : (s.raiseIllegal b).status = s.status.setIll := by
  cases b <;> rfl
@[simp] theorem State.raiseIllegal_cfg (s : State) (b : Bool) : (s.raiseIllegal b).cfg = s.cfg := by
  cases b <;> rfl
@[simp] theorem State.raiseIllegal_sampleMem (s : State) (b : Bool) : (s.raiseIllegal b).sampleMem = s.sampleMem := by
  cases b <;> rfl
@[simp] theorem State.raiseIllegal_inputs (s : State) (b : Bool) : (s.raiseIllegal b).inputs = s.inputs := by
  cases b <;> rfl

@[simp] theorem Status.setIll_ill (t : Status) : t.setIll.ill = true := rfl
@[simp] theorem Status.setIll_dmcf (t : Status) : t.setIll.dmcf = t.dmcf := rfl
@[simp] theorem Status.setDmcf_ill (t : Status) : t.setDmcf.ill = t.ill := rfl
@[simp] theorem Status.setDmcf_dmcf (t : Status) : t.setDmcf.dmcf = true := rfl

@[simp] theorem Noise.setDelta_clock (n : Noise) (v : BitVec 32) :
    (n.setDelta v).clock = { n.clock with delta := v } := rfl
@[simp] theorem Noise.setDelta_short (n : Noise) (v : BitVec 32) : (n.setDelta v).short = n.short := rfl
@[simp] theorem Noise.setDelta_seed (n : Noise) (v : BitVec 32) : (n.setDelta v).seed = n.seed := rfl
@[simp] theorem Noise.setDelta_vol (n : Noise) (v : BitVec 32) : (n.setDelta v).vol = n.vol := rfl
@[simp] theorem Noise.setDelta_bit (n : Noise) (v : BitVec 32) : (n.setDelta v).bit = n.bit := rfl

end Sys2Proof.Machine
end

