-- ==== Sys2Proof/Laws/Ops.lean ====
section
/-! SUPPORT. What each shared operation can do, said once: the bit clock, DmcReset, the LFSR shift and the DMC's effective clock
(40_phase_clock.md R102, 43_noise.md R151, 44_dmc.md R181, R196 to R201). -/

namespace Sys2Proof.Machine

/-- BitClockStep advances the clock, keeps the increment and leaves the comparison word equal to the clock's high half (R102). -/
theorem bitClockStep_fst (k : BitClock) :
    (bitClockStep k).1 = { clk := k.clk + k.delta, cmp := compareWord (k.clk + k.delta), delta := k.delta } := by
  by_cases h : compareWord (k.clk + k.delta) = k.cmp
  · simp [bitClockStep, advance, h]
  · simp [bitClockStep, advance, h]

/-- The tick is an effective clock exactly when the comparison word of the advanced clock differs (R102). -/
theorem bitClockStep_snd (k : BitClock) : (bitClockStep k).2 = decide (compareWord (k.clk + k.delta) ≠ k.cmp) := by
  by_cases h : compareWord (k.clk + k.delta) = k.cmp <;> simp [bitClockStep, advance, h]

/-- NoiseStep, by cases on the tick (R150). -/
theorem noiseStep_eq (n : Noise) :
    noiseStep n =
      if compareWord (n.clock.clk + n.clock.delta) = n.clock.cmp then { n with clock := (bitClockStep n.clock).1 }
      else lfsrShift { n with clock := (bitClockStep n.clock).1 } := by
  by_cases h : compareWord (n.clock.clk + n.clock.delta) = n.clock.cmp <;> simp [noiseStep, bitClockStep, advance, h]

/-- NoiseStep moves the clock as BitClockStep says. -/
theorem noiseStep_clock (n : Noise) : (noiseStep n).clock = (bitClockStep n.clock).1 := by
  rw [noiseStep_eq]; split <;> rfl

@[simp] theorem lfsrShift_clock (n : Noise) : (lfsrShift n).clock = n.clock := rfl
@[simp] theorem lfsrShift_short (n : Noise) : (lfsrShift n).short = n.short := rfl
@[simp] theorem lfsrShift_vol (n : Noise) : (lfsrShift n).vol = n.vol := rfl

@[simp] theorem noiseStep_short (n : Noise) : (noiseStep n).short = n.short := by
  rw [noiseStep_eq]; split <;> rfl

@[simp] theorem noiseStep_vol (n : Noise) : (noiseStep n).vol = n.vol := by
  rw [noiseStep_eq]; split <;> rfl

/-- DmcReset keeps the comparison word serviced, whatever DMC_RESET_CLEARS_CLOCK says (R181). -/
theorem dmcReset_serviced (c : Config) (d : Dmc) (h : d.clock.cmp = compareWord d.clock.clk) :
    (dmcReset c d).clock.cmp = compareWord (dmcReset c d).clock.clk := by
  simp only [dmcReset]; split
  · exact (by decide : (0 : BitVec 16) = compareWord 0)
  · exact h

@[simp] theorem dmcReset_offset (c : Config) (d : Dmc) : (dmcReset c d).offset = 0 := rfl
@[simp] theorem dmcReset_bitOffset (c : Config) (d : Dmc) : (dmcReset c d).bitOffset = 0 := rfl
@[simp] theorem dmcReset_out (c : Config) (d : Dmc) : (dmcReset c d).out = d.out := rfl
@[simp] theorem dmcReset_cur (c : Config) (d : Dmc) : (dmcReset c d).cur = d.cur := rfl
@[simp] theorem dmcReset_addr (c : Config) (d : Dmc) : (dmcReset c d).addr = d.addr := rfl
@[simp] theorem dmcReset_len (c : Config) (d : Dmc) : (dmcReset c d).len = d.len := rfl
@[simp] theorem dmcReset_loop (c : Config) (d : Dmc) : (dmcReset c d).loop = d.loop := rfl
@[simp] theorem dmcReset_delta (c : Config) (d : Dmc) : (dmcReset c d).clock.delta = d.clock.delta := by
  simp only [dmcReset]; split <;> rfl

/-- DmcStep, by cases on the tick (R182). -/
theorem dmcStep_eq (c : Config) (m : Memory) (d : Dmc) :
    dmcStep c m d =
      if compareWord (d.clock.clk + d.clock.delta) = d.clock.cmp then ({ d with clock := (bitClockStep d.clock).1 }, false)
      else dmcClock c m { d with clock := (bitClockStep d.clock).1 } := by
  by_cases h : compareWord (d.clock.clk + d.clock.delta) = d.clock.cmp <;> simp [dmcStep, bitClockStep, advance, h]

/-- DmcClock finds no memory, or consumes the byte of this clock (R196). -/
theorem dmcClock_cases (c : Config) (m : Memory) (d : Dmc) :
    (dmcFetch m d = none ∧ dmcClock c m d = (d, true)) ∨
    (∃ b, dmcFetch m d = some b ∧ dmcClock c m d = (dmcConsume c d b, false)) := by
  cases h : dmcFetch m d with
  | none => left; simp [dmcClock, h]
  | some b => right; exact ⟨b, rfl, by simp [dmcClock, h]⟩

/-- The DMC after a tick: its new value, stopped when the fetch found no memory (R182, R201). -/
def dmcAfter (c : Config) (r : Dmc × Bool) : Dmc :=
  if r.2 then dmcStop c r.1 else r.1

/-- Settling the DMC changes the DMC and may set STATUS.DMCF, and nothing else (R201, R302). -/
theorem State.settleDmc_eq (s : State) (r : Dmc × Bool) :
    s.settleDmc r =
      { s with dmc := dmcAfter s.cfg.val r, status := { ill := s.status.ill, dmcf := s.status.dmcf || r.2 } } := by
  obtain ⟨d, f⟩ := r
  cases f
  · simp [State.settleDmc, dmcAfter]
  · simp [State.settleDmc, dmcAfter, State.raiseDmcFetchFault, Status.setDmcf]

/-- The DMC's two pieces of what a tick writes. -/
theorem tickDmc_eq (s : State) :
    tickDmc s =
      { s with
        dmc := dmcAfter s.cfg.val (dmcStep s.cfg.val s.sampleMem s.dmc)
        status := { ill := s.status.ill, dmcf := s.status.dmcf || (dmcStep s.cfg.val s.sampleMem s.dmc).2 } } :=
  State.settleDmc_eq s _

end Sys2Proof.Machine
end

