-- ==== Sys2Proof/Laws/Callback.lean ====
section
/-! SUPPORT. What TICK can do, said once (46_callback.md R240). -/

namespace Sys2Proof.Machine

/-- Stage 1 of TICK writes the five channels and may set STATUS.DMCF, each channel from its own old value (R240). -/
theorem advanceChannels_eq (s : State) :
    advanceChannels s =
      { s with
        pulse1 := pulseStep s.pulse1
        pulse2 := pulseStep s.pulse2
        tri := triStep s.cfg.val s.tri
        noise := noiseStep s.noise
        dmc := dmcAfter s.cfg.val (dmcStep s.cfg.val s.sampleMem s.dmc)
        status := { ill := s.status.ill, dmcf := s.status.dmcf || (dmcStep s.cfg.val s.sampleMem s.dmc).2 } } := by
  simp [advanceChannels, tickDmc_eq, tickNoise, tickTri, tickPulse, State.setPulse, State.pulse]

/-- CounterStep writes the three counters and nothing else (R242). -/
theorem counterStep_eq (s : State) :
    counterStep s =
      { s with
        micros := s.micros + BitVec.ofNat 32 s.cfg.val.tickUs.val
        millis := if 1000 ≤ s.msFrac.toNat + s.cfg.val.tickUs.val then s.millis + 1 else s.millis
        msFrac := BitVec.ofNat 10 (if 1000 ≤ s.msFrac.toNat + s.cfg.val.tickUs.val
          then s.msFrac.toNat + s.cfg.val.tickUs.val - 1000 else s.msFrac.toNat + s.cfg.val.tickUs.val) } := by
  simp only [counterStep]
  split <;> rfl

/-- The mix answers exactly when the tnd index is a table index (R223, R228). -/
theorem mix_isSome (s : State) : (mix s).isSome = decide (tndIndex s < 203) := by
  by_cases h : tndIndex s < 203 <;> simp [mix, h]

/-- A TICK either writes the DAC and the counters after stage 1, or stops because the tnd index is no table index. -/
theorem execTick_cases (s : State) :
    (∃ l r, mix (advanceChannels s) = some (l, r) ∧
      execTick s = .next (counterStep ((advanceChannels s).dacWrite l r))) ∨
    (mix (advanceChannels s) = none ∧ execTick s = .fault .tndIndexOutOfRange) := by
  cases h : mix (advanceChannels s) with
  | none => right; simp [execTick, h]
  | some p => left; exact ⟨p.1, p.2, rfl, by simp [execTick, h]⟩

/-- What a TICK that answers a next state leaves. -/
theorem execTick_next (s t : State) (h : execTick s = .next t) :
    ∃ l r, mix (advanceChannels s) = some (l, r) ∧ t = counterStep ((advanceChannels s).dacWrite l r) := by
  rcases execTick_cases s with ⟨l, r, hm, he⟩ | ⟨-, he⟩
  · rw [he] at h
    exact ⟨l, r, hm, (Host.Outcome.next.inj h).symm⟩
  · rw [he] at h
    cases h

/-- The triangle's sample after its tick step is at most 15 when it was (R25, R131). -/
theorem triStep_sample_le (c : WfConfig) (t : Tri) (h : t.sample.toNat ≤ 15) : (triStep c.val t).sample.toNat ≤ 15 := by
  have hw := c.property
  simp only [Config.wf, Bool.and_eq_true, Config.triLutOk, List.all_eq_true, decide_eq_true_eq] at hw
  unfold triStep
  split
  · exact hw.1 _ (by simp)
  · split
    · bv_omega
    · exact h

end Sys2Proof.Machine
end

