-- ==== Sys2Proof/Laws/Decode.lean ====
section
/-! SUPPORT. The parts of a command word, and the data bits an encoder sets (30_encoding.md R71 to R75). -/

namespace Sys2Proof

/-- The bits of a command word put together from WE, A and D. -/
theorem getLsbD_word (e : BitVec 1) (a : RegAddr) (d : Data) (i : Nat) :
    BitVec.getLsbD (w := 41) (e ++ a ++ d) i =
      if i < 32 then d.getLsbD i else if i - 32 < 8 then a.getLsbD (i - 32) else e.getLsbD (i - 32 - 8) := by
  show BitVec.getLsbD (w := 1 + 8 + 32) (e ++ a ++ d) i = _
  rw [BitVec.getLsbD_append, BitVec.getLsbD_append]

theorem cwAddr_word (e : BitVec 1) (a : RegAddr) (d : Data) : cwAddr (e ++ a ++ d) = a := by
  apply BitVec.eq_of_getLsbD_eq
  intro i hi
  rw [cwAddr, BitVec.getLsbD_extractLsb', getLsbD_word]
  simp [hi]

theorem cwData_word (e : BitVec 1) (a : RegAddr) (d : Data) : cwData (e ++ a ++ d) = d := by
  apply BitVec.eq_of_getLsbD_eq
  intro i hi
  rw [cwData, BitVec.getLsbD_extractLsb', getLsbD_word]
  simp [hi]

@[simp] theorem cwWrite_writeWord (a : RegAddr) (d : Data) : cwWrite (writeWord a d) = true := by
  rw [cwWrite, writeWord, getLsbD_word]; rfl

@[simp] theorem cwWrite_readWord (a : RegAddr) (d : Data) : cwWrite (readWord a d) = false := by
  rw [cwWrite, readWord, getLsbD_word]; rfl

@[simp] theorem cwAddr_writeWord (a : RegAddr) (d : Data) : cwAddr (writeWord a d) = a := cwAddr_word 1#1 a d

@[simp] theorem cwAddr_readWord (a : RegAddr) (d : Data) : cwAddr (readWord a d) = a := cwAddr_word 0#1 a d

@[simp] theorem cwData_writeWord (a : RegAddr) (d : Data) : cwData (writeWord a d) = d := cwData_word 1#1 a d

@[simp] theorem cwData_readWord (a : RegAddr) (d : Data) : cwData (readWord a d) = d := cwData_word 0#1 a d

/-- Decoding a write word is decoding its address and data. -/
theorem decode_writeWord (a : RegAddr) (d : Data) : decode (writeWord a d) = decodeParts true a d := by
  simp [decode]

/-- Decoding a read word does not look at its data (R71). -/
theorem decode_readWord (a : RegAddr) (d : Data) : decode (readWord a d) = decodeParts false a 0 := by
  simp only [decode, cwWrite_readWord, cwAddr_readWord, cwData_readWord, decodeParts]
  rfl

/-- The field at bit 0 that a zero-extended value fills. -/
theorem field_setWidth {w : Nat} (v : BitVec w) (h : w ≤ 32) : field (v.setWidth 32) 0 w = v := by
  apply BitVec.eq_of_getLsbD_eq
  intro i hi
  have : i < 32 := by omega
  simp [field, hi, this]

/-- A zero-extended value sets no bit outside its width. -/
theorem setWidth_and_mask {w : Nat} (v : BitVec w) (mask : Data) (hm : ∀ i, i < w → mask.getLsbD i = true) :
    v.setWidth 32 &&& ~~~mask = 0 := by
  apply BitVec.eq_of_getLsbD_eq
  intro i hi
  by_cases h : i < w
  · simp [hm i h]
  · simp [BitVec.getLsbD_of_ge v i (by omega)]

@[simp] theorem flag_flagAt_zero (b : Bool) : flag (flagAt b 0) 0 = b := by
  cases b <;> rfl

@[simp] theorem flag_flagAt_seven (b : Bool) : flag (flagAt b 7) 7 = b := by
  cases b <;> rfl

@[simp] theorem regionOfBit_bitOfRegion (r : Region) : regionOfBit (bitOfRegion r) = r := by
  cases r <;> rfl

@[simp] theorem bitOfRegion_regionOfBit (b : Bool) : bitOfRegion (regionOfBit b) = b := by
  cases b <;> rfl

/-- A write word is legal when its address is a row that may be written and its data stays inside the row's mask (R77). -/
theorem wordLegal_writeWord (a : RegAddr) (d : Data) (row : RegRow)
    (hrow : regMap.find? (fun r => r.addr == a) = some row) (hacc : row.access ≠ .ro)
    (hmask : d &&& ~~~row.writeMask = 0) : wordLegal (writeWord a d) = true := by
  simp [wordLegal, hrow, hacc, hmask]

/-- A read word is legal when its address is a row that may be read, whatever its data (R71, R77). -/
theorem wordLegal_readWord (a : RegAddr) (d : Data) (row : RegRow)
    (hrow : regMap.find? (fun r => r.addr == a) = some row) (hacc : row.access ≠ .wo) :
    wordLegal (readWord a d) = true := by
  simp [wordLegal, hrow, hacc]

/-- A Boolean at bit 0 stays inside the mask 1. -/
theorem flagAt_zero_mask (b : Bool) : flagAt b 0 &&& ~~~(0x00000001 : Data) = 0 := by
  cases b <;> decide

/-- A Boolean at bit 7 stays inside the mask 0x80. -/
theorem flagAt_seven_mask (b : Bool) : flagAt b 7 &&& ~~~(0x00000080 : Data) = 0 := by
  cases b <;> decide

/-- The DCFG fields stay inside its mask (R74). -/
theorem dcfg_mask (rate : BitVec 4) (loop : Bool) (seed : BitVec 7) :
    (((seed.setWidth 32 <<< 8) ||| flagAt loop 7 ||| rate.setWidth 32) &&& ~~~(0x00007F8F : Data)) = 0 := by
  have h1 : (seed.setWidth 32 <<< 8) &&& ~~~(0x00007F8F : Data) = 0 := by
    apply BitVec.eq_of_getLsbD_eq
    intro i hi
    simp only [BitVec.getLsbD_and, BitVec.getLsbD_not, BitVec.getLsbD_shiftLeft, BitVec.getLsbD_setWidth]
    by_cases h : 8 ≤ i ∧ i < 15
    · have hb : (32655#32).getLsbD i = true := by
        obtain ⟨h8, h15⟩ := h
        interval_cases i <;> rfl
      simp [hb]
    · by_cases h8 : i < 8
      · simp [h8]
      · rw [BitVec.getLsbD_of_ge seed (i - 8) (by omega)]
        simp
  have h2 : flagAt loop 7 &&& ~~~(0x00007F8F : Data) = 0 := by
    cases loop <;> decide
  have h3 : rate.setWidth 32 &&& ~~~(0x00007F8F : Data) = 0 :=
    setWidth_and_mask rate _ (by decide)
  rw [BitVec.and_comm, BitVec.and_or_distrib_left, BitVec.and_or_distrib_left, BitVec.and_comm, h1, BitVec.and_comm, h2,
    BitVec.and_comm, h3]
  rfl

end Sys2Proof
end

