-- ==== Sys2Proof/Laws/Memory.lean ====
section
/-! SUPPORT. The sample memory: reading after placing a byte, and the canonical form (20_memory.md R50 to R53). -/

namespace Sys2Proof.Machine

/-- The memory of State.reset has the canonical form. -/
theorem reset_sampleMem_wf : Memory.wf State.reset.sampleMem = true := rfl

/-- A read at the placed address gives the placed byte. -/
theorem memRead_memPlace_self (m : Memory) (a : BitVec 32) (b : Byte) : memRead (memPlace m a b) a = some b := by
  induction m with
  | nil => simp [memPlace, memRead]
  | cons p rest ih =>
    obtain ⟨x, y⟩ := p
    simp only [memPlace]
    split
    · simp [memRead]
    · split
      · simp_all [memRead]
      · rename_i h1 h2
        simp [memRead, Ne.symm h2, ih]

/-- Placing a byte leaves every other address alone. -/
theorem memRead_memPlace_other (m : Memory) (a c : BitVec 32) (b : Byte) (h : c ≠ a) :
    memRead (memPlace m a b) c = memRead m c := by
  have hn : a.toNat ≠ c.toNat := fun e => h (BitVec.eq_of_toNat_eq e.symm)
  induction m with
  | nil => simp [memPlace, memRead, hn]
  | cons p rest ih =>
    obtain ⟨x, y⟩ := p
    simp only [memPlace]
    split
    · simp [memRead, hn]
    · split
      · rename_i h1 h2
        have hx : x ≠ c.toNat := h2 ▸ hn
        simp [memRead, hx]
      · simp [memRead, ih]

/-- Placing a byte at or above the floor keeps the canonical form above that floor. -/
theorem memoryWfAbove_memPlace (m : Memory) (a : BitVec 32) (b : Byte) (f : Nat) (hf : f ≤ a.toNat)
    (h : memoryWfAbove f m = true) : memoryWfAbove f (memPlace m a b) = true := by
  induction m generalizing f with
  | nil => simp [memPlace, memoryWfAbove, hf, a.isLt]
  | cons p rest ih =>
    obtain ⟨x, y⟩ := p
    simp only [memoryWfAbove, Bool.and_eq_true, decide_eq_true_eq] at h
    obtain ⟨⟨h1, h2'⟩, h3⟩ := h
    have h2 : x < 4294967296 := h2'
    simp only [memPlace]
    split
    · rename_i hlt
      simp [memoryWfAbove, hf, a.isLt, h2, h3, Nat.succ_le_iff.mpr hlt]
    · split
      · simp [memoryWfAbove, h1, h2, h3]
      · have := ih (x + 1) (by omega) h3
        simp [memoryWfAbove, h1, h2, this]

/-- Placing a byte keeps the canonical form. -/
theorem memPlace_wf (m : Memory) (a : BitVec 32) (b : Byte) (h : Memory.wf m = true) : Memory.wf (memPlace m a b) = true :=
  memoryWfAbove_memPlace m a b 0 (Nat.zero_le _) h

/-- With nothing listed, no memory answers anywhere (R51). -/
theorem memRead_nil (a : BitVec 32) : memRead [] a = none := rfl

end Sys2Proof.Machine
end

