-- ==== Sys2Proof/Laws/PerInstr.lean ====
section
/-! SUPPORT. The statements made for each instruction: the family EncodesLegalWord says that the word encode writes for an
instruction is a legal one by the register map of 30_encoding.md R73, R74 and R77, and that an event is its own input. -/

namespace Sys2Proof.Laws.EncodesLegalWord

/-- The input encode gives: a legal command word (R77), or the event itself (R76). -/
def Statement (i : Instr) : Prop :=
  match encode i with
  | .command cw => wordLegal cw = true
  | x => decodeInput x = .ok i

theorem wrPduty (c : PulseChan) (v : Byte) : Statement (.wrPduty c v) := by
  cases c
  · exact wordLegal_writeWord _ _ ⟨0x00, .rw, 0x000000FF⟩ (by decide) (by decide) (setWidth_and_mask v _ (by decide))
  · exact wordLegal_writeWord _ _ ⟨0x04, .rw, 0x000000FF⟩ (by decide) (by decide) (setWidth_and_mask v _ (by decide))

theorem wrPvol (c : PulseChan) (v : BitVec 4) : Statement (.wrPvol c v) := by
  cases c
  · exact wordLegal_writeWord _ _ ⟨0x01, .rw, 0x0000000F⟩ (by decide) (by decide) (setWidth_and_mask v _ (by decide))
  · exact wordLegal_writeWord _ _ ⟨0x05, .rw, 0x0000000F⟩ (by decide) (by decide) (setWidth_and_mask v _ (by decide))

theorem wrPdelta (c : PulseChan) (v : BitVec 16) : Statement (.wrPdelta c v) := by
  cases c
  · exact wordLegal_writeWord _ _ ⟨0x02, .rw, 0x0000FFFF⟩ (by decide) (by decide) (setWidth_and_mask v _ (by decide))
  · exact wordLegal_writeWord _ _ ⟨0x06, .rw, 0x0000FFFF⟩ (by decide) (by decide) (setWidth_and_mask v _ (by decide))

theorem wrTgate (g : Bool) : Statement (.wrTgate g) :=
  wordLegal_writeWord _ _ ⟨0x08, .rw, 0x00000001⟩ (by decide) (by decide) (flagAt_zero_mask g)

theorem wrTdelta (v : BitVec 16) : Statement (.wrTdelta v) :=
  wordLegal_writeWord _ _ ⟨0x09, .rw, 0x0000FFFF⟩ (by decide) (by decide) (setWidth_and_mask v _ (by decide))

theorem wrNvol (v : BitVec 4) : Statement (.wrNvol v) :=
  wordLegal_writeWord _ _ ⟨0x0C, .rw, 0x0000000F⟩ (by decide) (by decide) (setWidth_and_mask v _ (by decide))

theorem wrNmode (short : Bool) : Statement (.wrNmode short) :=
  wordLegal_writeWord _ _ ⟨0x0D, .rw, 0x00000080⟩ (by decide) (by decide) (flagAt_seven_mask short)

theorem wrNseed (v : BitVec 15) : Statement (.wrNseed v) :=
  wordLegal_writeWord _ _ ⟨0x0E, .rw, 0x00007FFF⟩ (by decide) (by decide) (setWidth_and_mask v _ (by decide))

theorem wrNdelta (v : Data) : Statement (.wrNdelta v) :=
  wordLegal_writeWord _ _ ⟨0x0F, .rw, 0xFFFFFFFF⟩ (by decide) (by decide) (by simp)

theorem wrNrate (idx : BitVec 4) : Statement (.wrNrate idx) :=
  wordLegal_writeWord _ _ ⟨0x10, .wo, 0x0000000F⟩ (by decide) (by decide) (setWidth_and_mask idx _ (by decide))

theorem wrDaddr (v : Data) : Statement (.wrDaddr v) :=
  wordLegal_writeWord _ _ ⟨0x14, .rw, 0xFFFFFFFF⟩ (by decide) (by decide) (by simp)

theorem wrDlen (v : BitVec 16) : Statement (.wrDlen v) :=
  wordLegal_writeWord _ _ ⟨0x15, .rw, 0x0000FFFF⟩ (by decide) (by decide) (setWidth_and_mask v _ (by decide))

theorem wrDcfg (rate : BitVec 4) (loop : Bool) (seed : BitVec 7) : Statement (.wrDcfg rate loop seed) :=
  wordLegal_writeWord _ _ ⟨0x16, .rw, 0x00007F8F⟩ (by decide) (by decide) (dcfg_mask rate loop seed)

theorem wrDplay : Statement .wrDplay :=
  wordLegal_writeWord _ _ ⟨0x17, .wo, 0x00000000⟩ (by decide) (by decide) (by decide)

theorem wrDkill : Statement .wrDkill :=
  wordLegal_writeWord _ _ ⟨0x18, .wo, 0x00000000⟩ (by decide) (by decide) (by decide)

theorem wrEnable (v : BitVec 5) : Statement (.wrEnable v) :=
  wordLegal_writeWord _ _ ⟨0x24, .rw, 0x0000001F⟩ (by decide) (by decide) (setWidth_and_mask v _ (by decide))

theorem wrRegion (r : Region) : Statement (.wrRegion r) :=
  wordLegal_writeWord _ _ ⟨0x28, .rw, 0x00000001⟩ (by decide) (by decide) (flagAt_zero_mask (bitOfRegion r))

theorem rdPduty (c : PulseChan) : Statement (.rdPduty c) := by
  cases c
  · exact wordLegal_readWord _ _ ⟨0x00, .rw, 0x000000FF⟩ (by decide) (by decide)
  · exact wordLegal_readWord _ _ ⟨0x04, .rw, 0x000000FF⟩ (by decide) (by decide)

theorem rdPvol (c : PulseChan) : Statement (.rdPvol c) := by
  cases c
  · exact wordLegal_readWord _ _ ⟨0x01, .rw, 0x0000000F⟩ (by decide) (by decide)
  · exact wordLegal_readWord _ _ ⟨0x05, .rw, 0x0000000F⟩ (by decide) (by decide)

theorem rdPdelta (c : PulseChan) : Statement (.rdPdelta c) := by
  cases c
  · exact wordLegal_readWord _ _ ⟨0x02, .rw, 0x0000FFFF⟩ (by decide) (by decide)
  · exact wordLegal_readWord _ _ ⟨0x06, .rw, 0x0000FFFF⟩ (by decide) (by decide)

theorem rdPacc (c : PulseChan) : Statement (.rdPacc c) := by
  cases c
  · exact wordLegal_readWord _ _ ⟨0x03, .ro, 0x00000000⟩ (by decide) (by decide)
  · exact wordLegal_readWord _ _ ⟨0x07, .ro, 0x00000000⟩ (by decide) (by decide)

theorem rdTgate : Statement .rdTgate :=
  wordLegal_readWord _ _ ⟨0x08, .rw, 0x00000001⟩ (by decide) (by decide)

theorem rdTdelta : Statement .rdTdelta :=
  wordLegal_readWord _ _ ⟨0x09, .rw, 0x0000FFFF⟩ (by decide) (by decide)

theorem rdTacc : Statement .rdTacc :=
  wordLegal_readWord _ _ ⟨0x0A, .ro, 0x00000000⟩ (by decide) (by decide)

theorem rdTsample : Statement .rdTsample :=
  wordLegal_readWord _ _ ⟨0x0B, .ro, 0x00000000⟩ (by decide) (by decide)

theorem rdNvol : Statement .rdNvol :=
  wordLegal_readWord _ _ ⟨0x0C, .rw, 0x0000000F⟩ (by decide) (by decide)

theorem rdNmode : Statement .rdNmode :=
  wordLegal_readWord _ _ ⟨0x0D, .rw, 0x00000080⟩ (by decide) (by decide)

theorem rdNseed : Statement .rdNseed :=
  wordLegal_readWord _ _ ⟨0x0E, .rw, 0x00007FFF⟩ (by decide) (by decide)

theorem rdNdelta : Statement .rdNdelta :=
  wordLegal_readWord _ _ ⟨0x0F, .rw, 0xFFFFFFFF⟩ (by decide) (by decide)

theorem rdNclk : Statement .rdNclk :=
  wordLegal_readWord _ _ ⟨0x11, .ro, 0x00000000⟩ (by decide) (by decide)

theorem rdNcmp : Statement .rdNcmp :=
  wordLegal_readWord _ _ ⟨0x12, .ro, 0x00000000⟩ (by decide) (by decide)

theorem rdNout : Statement .rdNout :=
  wordLegal_readWord _ _ ⟨0x13, .ro, 0x00000000⟩ (by decide) (by decide)

theorem rdDaddr : Statement .rdDaddr :=
  wordLegal_readWord _ _ ⟨0x14, .rw, 0xFFFFFFFF⟩ (by decide) (by decide)

theorem rdDlen : Statement .rdDlen :=
  wordLegal_readWord _ _ ⟨0x15, .rw, 0x0000FFFF⟩ (by decide) (by decide)

theorem rdDcfg : Statement .rdDcfg :=
  wordLegal_readWord _ _ ⟨0x16, .rw, 0x00007F8F⟩ (by decide) (by decide)

theorem rdDout : Statement .rdDout :=
  wordLegal_readWord _ _ ⟨0x19, .ro, 0x00000000⟩ (by decide) (by decide)

theorem rdDpos : Statement .rdDpos :=
  wordLegal_readWord _ _ ⟨0x1A, .ro, 0x00000000⟩ (by decide) (by decide)

theorem rdDclk : Statement .rdDclk :=
  wordLegal_readWord _ _ ⟨0x1B, .ro, 0x00000000⟩ (by decide) (by decide)

theorem rdDcmp : Statement .rdDcmp :=
  wordLegal_readWord _ _ ⟨0x1C, .ro, 0x00000000⟩ (by decide) (by decide)

theorem rdDdelta : Statement .rdDdelta :=
  wordLegal_readWord _ _ ⟨0x1D, .ro, 0x00000000⟩ (by decide) (by decide)

theorem rdDcur : Statement .rdDcur :=
  wordLegal_readWord _ _ ⟨0x1E, .ro, 0x00000000⟩ (by decide) (by decide)

theorem rdDaaddr : Statement .rdDaaddr :=
  wordLegal_readWord _ _ ⟨0x1F, .ro, 0x00000000⟩ (by decide) (by decide)

theorem rdDalen : Statement .rdDalen :=
  wordLegal_readWord _ _ ⟨0x20, .ro, 0x00000000⟩ (by decide) (by decide)

theorem rdEnable : Statement .rdEnable :=
  wordLegal_readWord _ _ ⟨0x24, .rw, 0x0000001F⟩ (by decide) (by decide)

theorem rdDacl : Statement .rdDacl :=
  wordLegal_readWord _ _ ⟨0x25, .ro, 0x00000000⟩ (by decide) (by decide)

theorem rdDacr : Statement .rdDacr :=
  wordLegal_readWord _ _ ⟨0x26, .ro, 0x00000000⟩ (by decide) (by decide)

theorem rdRegion : Statement .rdRegion :=
  wordLegal_readWord _ _ ⟨0x28, .rw, 0x00000001⟩ (by decide) (by decide)

theorem rdFrameus : Statement .rdFrameus :=
  wordLegal_readWord _ _ ⟨0x29, .ro, 0x00000000⟩ (by decide) (by decide)

theorem rdMicros : Statement .rdMicros :=
  wordLegal_readWord _ _ ⟨0x2C, .ro, 0x00000000⟩ (by decide) (by decide)

theorem rdMillis : Statement .rdMillis :=
  wordLegal_readWord _ _ ⟨0x2D, .ro, 0x00000000⟩ (by decide) (by decide)

theorem rdStatus : Statement .rdStatus :=
  wordLegal_readWord _ _ ⟨0x2E, .ro, 0x00000000⟩ (by decide) (by decide)

theorem tick : Statement .tick := rfl

theorem reset : Statement .reset := rfl

end Sys2Proof.Laws.EncodesLegalWord
end

