-- ==== Sys2Proof/Laws/Step.lean ====
section
/-! SUPPORT. What a step can do, said once (20_memory.md R58, 60_exceptions.md R301, R312). -/

namespace Sys2Proof.Machine

/-- A step with nothing at the ports leaves the state as it is (R312). -/
theorem step_idle (s : State) (h : s.inputs = []) : step s = .next s := by
  simp [step, takeInput, h]

/-- A step with the input x first. -/
theorem step_cons (s : State) (x : Input) (rest : List Input) (h : s.inputs = x :: rest) :
    step s =
      match decodeInput x with
      | .ok i => exec i { s with inputs := rest }
      | .error _ => .next (State.raiseIllegal { s with inputs := rest } (inputIsRead x)) := by
  have ht : takeInput s = some (x, { s with inputs := rest }) := by
    rw [takeInput, h]
  cases hd : decodeInput x <;> simp [step, ht, hd]

/-- What a step that answers a next state did: it idled, it performed an instruction, or it raised Illegal. -/
theorem step_cases (s t : State) (h : step s = .next t) :
    (s.inputs = [] ∧ t = s) ∨
    (∃ x rest i, s.inputs = x :: rest ∧ decodeInput x = .ok i ∧ exec i { s with inputs := rest } = .next t) ∨
    (∃ x rest e, s.inputs = x :: rest ∧ decodeInput x = .error e ∧
      t = State.raiseIllegal { s with inputs := rest } (inputIsRead x)) := by
  cases hi : s.inputs with
  | nil =>
    rw [step_idle s hi] at h
    exact .inl ⟨rfl, (Host.Outcome.next.inj h).symm⟩
  | cons x rest =>
    rw [step_cons s x rest hi] at h
    cases hd : decodeInput x with
    | ok i => rw [hd] at h; exact .inr (.inl ⟨x, rest, i, rfl, hd, h⟩)
    | error e => rw [hd] at h; exact .inr (.inr ⟨x, rest, e, rfl, hd, (Host.Outcome.next.inj h).symm⟩)

end Sys2Proof.Machine
end

