-- ==== Sys2Proof/Tests/Slice0.lean ====
section
/-! SUPPORT. Tests with expected values from the spec (its worked examples and 95_test_vectors.md under configuration TC), the
well-formedness smoke test, and a witness for the hypotheses of every obligation that has some. -/

namespace Sys2Proof.Tests

open Sys2Proof Sys2Proof.Machine

/-! ### Decoding: a word written out bit by bit from the encodings of spec/opcode_table.json for every row -/

/-- V-P3, R112 to R118: the pulse words, c at A[2]. -/
theorem test_decode_pulse :
    decode 0b1_00000000_0000000000000000_0000000001000000 = .ok (.wrPduty .pulse1 0x40) ∧
    decode 0b1_00000100_0000000000000000_0000000011000000 = .ok (.wrPduty .pulse2 0xC0) ∧
    decode 0b1_00000101_0000000000000000_0000000000001111 = .ok (.wrPvol .pulse2 15) ∧
    decode 0b1_00000010_0000000000000000_0000001111101000 = .ok (.wrPdelta .pulse1 1000) ∧
    decode 0b1_00000110_0000000000000000_1111111111111111 = .ok (.wrPdelta .pulse2 0xFFFF) ∧
    decode 0b0_00000100_0000000000000000_0000000000000000 = .ok (.rdPduty .pulse2) ∧
    decode 0b0_00000001_0000000000000000_0000000000000000 = .ok (.rdPvol .pulse1) ∧
    decode 0b0_00000010_0000000000000000_0000000000000000 = .ok (.rdPdelta .pulse1) ∧
    decode 0b0_00000111_0000000000000000_0000000000000000 = .ok (.rdPacc .pulse2) := by
  refine ⟨rfl, rfl, rfl, rfl, rfl, rfl, rfl, rfl, rfl⟩

/-- R133 to R138. -/
theorem test_decode_triangle :
    decode 0b1_00001000_0000000000000000_0000000000000001 = .ok (.wrTgate true) ∧
    decode 0b1_00001000_0000000000000000_0000000000000000 = .ok (.wrTgate false) ∧
    decode 0b1_00001001_0000000000000000_0000100000000000 = .ok (.wrTdelta 0x0800) ∧
    decode 0b0_00001000_0000000000000000_0000000000000000 = .ok .rdTgate ∧
    decode 0b0_00001001_0000000000000000_0000000000000000 = .ok .rdTdelta ∧
    decode 0b0_00001010_0000000000000000_0000000000000000 = .ok .rdTacc ∧
    decode 0b0_00001011_0000000000000000_0000000000000000 = .ok .rdTsample := by
  refine ⟨rfl, rfl, rfl, rfl, rfl, rfl, rfl⟩

/-- R154 to R165: NMODE is D[7]. -/
theorem test_decode_noise :
    decode 0b1_00001100_0000000000000000_0000000000001001 = .ok (.wrNvol 9) ∧
    decode 0b1_00001101_0000000000000000_0000000010000000 = .ok (.wrNmode true) ∧
    decode 0b1_00001110_0000000000000000_0111111111111110 = .ok (.wrNseed 0x7FFE) ∧
    decode 0b1_00001111_1000000000000000_0000000000000001 = .ok (.wrNdelta 0x80000001) ∧
    decode 0b1_00010000_0000000000000000_0000000000000011 = .ok (.wrNrate 3) ∧
    decode 0b0_00001100_0000000000000000_0000000000000000 = .ok .rdNvol ∧
    decode 0b0_00001101_0000000000000000_0000000000000000 = .ok .rdNmode ∧
    decode 0b0_00001110_0000000000000000_0000000000000000 = .ok .rdNseed ∧
    decode 0b0_00001111_0000000000000000_0000000000000000 = .ok .rdNdelta ∧
    decode 0b0_00010001_0000000000000000_0000000000000000 = .ok .rdNclk ∧
    decode 0b0_00010010_0000000000000000_0000000000000000 = .ok .rdNcmp ∧
    decode 0b0_00010011_0000000000000000_0000000000000000 = .ok .rdNout := by
  refine ⟨rfl, rfl, rfl, rfl, rfl, rfl, rfl, rfl, rfl, rfl, rfl, rfl⟩

/-- R183 to R190: DCFG is rate D[3:0], loop D[7], seed D[14:8]. -/
theorem test_decode_dmc_writes :
    decode 0b1_00010100_0000000000000000_0001000000000000 = .ok (.wrDaddr 0x1000) ∧
    decode 0b1_00010101_0000000000000000_0000000000000010 = .ok (.wrDlen 2) ∧
    decode 0b1_00010110_0000000000000000_0100000010001111 = .ok (.wrDcfg 15 true 64) ∧
    decode 0b1_00010110_0000000000000000_0111111100000001 = .ok (.wrDcfg 1 false 127) ∧
    decode 0b1_00010111_0000000000000000_0000000000000000 = .ok .wrDplay ∧
    decode 0b1_00011000_0000000000000000_0000000000000000 = .ok .wrDkill := by
  refine ⟨rfl, rfl, rfl, rfl, rfl, rfl⟩

/-- R184 to R205; the data bits of a read are ignored (R71). -/
theorem test_decode_dmc_reads :
    decode 0b0_00010100_0000000000000000_0000000000000000 = .ok .rdDaddr ∧
    decode 0b0_00010101_0000000000000000_0000000000000000 = .ok .rdDlen ∧
    decode 0b0_00010110_1111111111111111_1111111111111111 = .ok .rdDcfg ∧
    decode 0b0_00011001_0000000000000000_0000000000000000 = .ok .rdDout ∧
    decode 0b0_00011010_0000000000000000_0000000000000000 = .ok .rdDpos ∧
    decode 0b0_00011011_0000000000000000_0000000000000000 = .ok .rdDclk ∧
    decode 0b0_00011100_0000000000000000_0000000000000000 = .ok .rdDcmp ∧
    decode 0b0_00011101_0000000000000000_0000000000000000 = .ok .rdDdelta ∧
    decode 0b0_00011110_0000000000000000_0000000000000000 = .ok .rdDcur ∧
    decode 0b0_00011111_0000000000000000_0000000000000000 = .ok .rdDaaddr ∧
    decode 0b0_00100000_0000000000000000_0000000000000000 = .ok .rdDalen := by
  refine ⟨rfl, rfl, rfl, rfl, rfl, rfl, rfl, rfl, rfl, rfl, rfl⟩

/-- R221, R222, R230, R231. -/
theorem test_decode_mixer :
    decode 0b1_00100100_0000000000000000_0000000000000011 = .ok (.wrEnable 3) ∧
    decode 0b1_00100100_0000000000000000_0000000000010000 = .ok (.wrEnable 0x10) ∧
    decode 0b0_00100100_0000000000000000_0000000000000000 = .ok .rdEnable ∧
    decode 0b0_00100101_0000000000000000_0000000000000000 = .ok .rdDacl ∧
    decode 0b0_00100110_0000000000000000_0000000000000000 = .ok .rdDacr := by
  refine ⟨rfl, rfl, rfl, rfl, rfl⟩

/-- R261 to R265, R244, R245. -/
theorem test_decode_global :
    decode 0b1_00101000_0000000000000000_0000000000000001 = .ok (.wrRegion .pal) ∧
    decode 0b1_00101000_0000000000000000_0000000000000000 = .ok (.wrRegion .ntsc) ∧
    decode 0b0_00101000_0000000000000000_0000000000000000 = .ok .rdRegion ∧
    decode 0b0_00101001_0000000000000000_0000000000000000 = .ok .rdFrameus ∧
    decode 0b0_00101100_0000000000000000_0000000000000000 = .ok .rdMicros ∧
    decode 0b0_00101101_0000000000000000_0000000000000000 = .ok .rdMillis ∧
    decode 0b0_00101110_0001001000110100_0101011001111000 = .ok .rdStatus := by
  refine ⟨rfl, rfl, rfl, rfl, rfl, rfl, rfl⟩

/-- R76: TICK and RESET are events beside the words, and a RESET during a TICK is the RESET (R241). -/
theorem test_decode_events :
    decodeInput .tick = .ok .tick ∧ decodeInput .reset = .ok .reset ∧ decodeInput .resetDuringTick = .ok .reset := by
  decide

/-! ### Well-formedness: an ill-formed term for each check, refused -/

/-- V-E1 and R75: the four causes, each named; the undefined address of a read too. -/
theorem test_illegal_words :
    decode 0x12100000000 = .error (.undefinedAddress 0x21) ∧ decode 0x02100000000 = .error (.undefinedAddress 0x21) ∧
    decode 0x1FF00000000 = .error (.undefinedAddress 0xFF) ∧ decode 0x10300000000 = .error (.writeToReadOnly 0x03) ∧
    decode 0x11600000010 = .error (.reservedBits 0x16 0x00000010) ∧ decode 0x01700000000 = .error (.readOfWriteOnly 0x17) := by
  refine ⟨rfl, rfl, rfl, rfl, rfl, rfl⟩

/-- V-P3: a write with a reserved bit set is illegal at the first bit outside each mask; so is data on DPLAY. -/
theorem test_reserved_bits :
    wordLegal 0x100000000FF = true ∧ wordLegal 0x10000000100 = false ∧ wordLegal 0x10100000010 = false ∧
    wordLegal 0x10200010000 = false ∧ wordLegal 0x10E00008000 = false ∧ wordLegal 0x11600008000 = false ∧
    wordLegal 0x11700000001 = false ∧ wordLegal 0x12400000020 = false ∧ wordLegal 0x12800000002 = false := by
  decide

theorem refused_of_not_wf (c : Config) (h : c.wf = false) : c.accept = none := by
  simp [Config.accept, h]

theorem admitted_of_wf (c : Config) (h : c.wf = true) : c.accept.isSome = true := by
  simp [Config.accept, h]

/-- R6, first check: a TRI_LUT entry of 16 is refused. -/
theorem test_wf_tri_lut :
    Config.accept { Config.testVectors with triLut := defaultTriLut.set 7 16 } = none := by
  exact refused_of_not_wf _ (by decide +kernel)

/-- R6, third check: the greatest entries must sum to at most 255; 110 and 146 do not, 109 and 146 do. -/
theorem test_wf_sum :
    Config.accept { Config.testVectors with pulseLut := defaultPulseLut.set 3 110 } = none ∧
    (Config.accept { Config.testVectors with pulseLut := defaultPulseLut.set 3 109 }).isSome = true := by
  exact ⟨refused_of_not_wf _ (by decide +kernel), admitted_of_wf _ (by decide +kernel)⟩

/-! ### One step of each instruction, under configuration TC -/

/-- The state right after RESET under configuration TC of 95_test_vectors.md §0. -/
def tc : State :=
  { State.reset with cfg := ⟨Config.testVectors, Config.testVectors_wf⟩, sampleMem := [(0x1000, 0xA5), (0x1001, 0x0F)] }

/-- The state of an outcome; TC's where the machine stopped. -/
def got : Result → State
  | .next t => t
  | _ => tc

/-- Whether the machine went on. -/
def goesOn : Result → Bool
  | .next _ => true
  | _ => false

theorem goesOn_next (r : Result) (h : goesOn r = true) : r = .next (got r) := by
  cases r with
  | next t => rfl
  | fault e => cases h
  | refused e => cases h

/-- One step on the encoding of an instruction. -/
def one (i : Instr) (s : State) : State :=
  got (step (placeInput s (encode i)))

/-- The newest output of a step. -/
def shown (i : Instr) (s : State) : Option Output :=
  (one i s).outputs.head?

/-- R112 and V-P3. -/
theorem test_wr_pduty :
    (one (.wrPduty .pulse1 0x40) tc).pulse1.duty = 0x40 ∧ (one (.wrPduty .pulse2 0xC0) tc).pulse2.duty = 192 := by
  exact ⟨rfl, rfl⟩

/-- R114. -/
theorem test_wr_pvol : (one (.wrPvol .pulse2 15) tc).pulse2.vol = 15 ∧ (one (.wrPvol .pulse2 15) tc).pulse1.vol = 0 := by
  exact ⟨rfl, rfl⟩

/-- R116. -/
theorem test_wr_pdelta : (one (.wrPdelta .pulse1 1000) tc).pulse1.delta = 1000 := by
  rfl

/-- V-P3: RD.PDUTY 1 returns 0xC0. -/
theorem test_rd_pduty : shown (.rdPduty .pulse2) (one (.wrPduty .pulse2 0xC0) tc) = some (.readData 0xC0) := by
  rfl

/-- R115. -/
theorem test_rd_pvol : shown (.rdPvol .pulse2) (one (.wrPvol .pulse2 15) tc) = some (.readData 0xF) := by
  rfl

/-- R117. -/
theorem test_rd_pdelta : shown (.rdPdelta .pulse1) (one (.wrPdelta .pulse1 1000) tc) = some (.readData 0x3E8) := by
  rfl

/-- R118 with R110: delta 1000 from 2000 reads 3000. -/
theorem test_rd_pacc :
    shown (.rdPacc .pulse1) (one .tick { tc with pulse1 := { acc := 2000, delta := 1000, duty := 0, vol := 0 } }) =
      some (.readData 3000) := by
  rfl

/-- R133: gate 0, acc 0x1234 gives acc 0x8000. -/
theorem test_wr_tgate_on :
    (one (.wrTgate true) { tc with tri := { tc.tri with acc := 0x1234 } }).tri =
      { tc.tri with gate := true, acc := 0x8000 } := by
  rfl

/-- R133: writing 1 while gated does not touch acc. -/
theorem test_wr_tgate_again :
    (one (.wrTgate true) { tc with tri := { tc.tri with acc := 0x1234, gate := true } }).tri.acc = 0x1234 := by
  rfl

/-- R135. -/
theorem test_wr_tdelta : (one (.wrTdelta 0x0800) tc).tri.delta = 0x0800 := by
  rfl

/-- R134. -/
theorem test_rd_tgate : shown .rdTgate (one (.wrTgate true) tc) = some (.readData 1) := by
  rfl

/-- R136. -/
theorem test_rd_tdelta : shown .rdTdelta (one (.wrTdelta 0x0800) tc) = some (.readData 0x800) := by
  rfl

/-- R137 after R130's example: 0x8800. -/
theorem test_rd_tacc :
    shown .rdTacc (one .tick { tc with tri := { acc := 0x8000, delta := 0x0800, gate := true, sample := 9 } }) =
      some (.readData 0x8800) := by
  rfl

/-- R138 and R139(b): ungated from 5, one TICK gives 4. -/
theorem test_rd_tsample : shown .rdTsample (one .tick { tc with tri := { tc.tri with sample := 5 } }) = some (.readData 4) := by
  rfl

/-- R154. -/
theorem test_wr_nvol : (one (.wrNvol 9) tc).noise.vol = 9 := by
  rfl

/-- R156. -/
theorem test_wr_nmode : (one (.wrNmode true) tc).noise.short = true := by
  rfl

/-- R158: 0 is accepted. -/
theorem test_wr_nseed : (one (.wrNseed 0) tc).noise.seed = 0 ∧ (one (.wrNseed 0) tc).status.ill = false := by
  exact ⟨rfl, rfl⟩

/-- R160. -/
theorem test_wr_ndelta : (one (.wrNdelta 0x8000) tc).noise.clock = { clk := 0, cmp := 0, delta := 0x8000 } := by
  rfl

/-- R162 with TC's NOISE_RATE_PAL[3] = 0x8000 >> 3. -/
theorem test_wr_nrate : (one (.wrNrate 3) { tc with region := .pal }).noise.clock.delta = 0x1000 := by
  rfl

/-- R162 with TC's NOISE_RATE_NTSC[3] = 0x10000 >> 3. -/
theorem test_wr_nrate_ntsc : (one (.wrNrate 3) tc).noise.clock.delta = 0x2000 := by
  rfl

/-- R155. -/
theorem test_rd_nvol : shown .rdNvol (one (.wrNvol 9) tc) = some (.readData 9) := by
  rfl

/-- R157: short mode reads at bit 7. -/
theorem test_rd_nmode : shown .rdNmode (one (.wrNmode true) tc) = some (.readData 0x80) := by
  rfl

/-- R159: after RESET returns 1. -/
theorem test_rd_nseed : shown .rdNseed tc = some (.readData 1) := by
  rfl

/-- R161. -/
theorem test_rd_ndelta : shown .rdNdelta (one (.wrNdelta 0x8000) tc) = some (.readData 0x8000) := by
  rfl

/-- TC with the noise clock of R163's example just before its third TICK. -/
def noiseRunning : State :=
  { tc with noise := { tc.noise with clock := { clk := 0x10000, cmp := 1, delta := 0x8000 } } }

/-- R163. -/
theorem test_rd_nclk : shown .rdNclk (one .tick noiseRunning) = some (.readData 0x18000) := by
  rfl

/-- R164. -/
theorem test_rd_ncmp : shown .rdNcmp (one .tick noiseRunning) = some (.readData 1) := by
  rfl

/-- R165: the first shift from seed 1 puts out 1. -/
theorem test_rd_nout : shown .rdNout (one .tick (one (.wrNdelta 0x10000) tc)) = some (.readData 1) := by
  rfl

/-- R151: seed 0x0041, long mode. -/
theorem test_lfsr_long :
    (lfsrShift { tc.noise with seed := 0x0041 }).seed = 0x4020 ∧ (lfsrShift { tc.noise with seed := 0x0041 }).bit = 1 := by
  decide

/-- R151: seed 0x0041, short mode. -/
theorem test_lfsr_short : (lfsrShift { tc.noise with seed := 0x0041, short := true }).seed = 0x0020 := by
  decide

/-- V-A3, R103: a move of the comparison word by 0x10000 is idle. -/
theorem test_bit_clock_idle :
    bitClockStep { clk := 0x8000, cmp := 0, delta := 0xFFFF8000 } = ({ clk := 0, cmp := 0, delta := 0xFFFF8000 }, false) := by
  decide

/-- V-A3, R103: a move by -1 is effective. -/
theorem test_bit_clock_back :
    bitClockStep { clk := 0, cmp := 0, delta := 0xFFFF8000 } =
      ({ clk := 0xFFFF8000, cmp := 0xFFFF, delta := 0xFFFF8000 }, true) := by
  decide

/-- TC with the staging of R189's example. -/
def staged : State :=
  { tc with stage := { addr := 0x1000, len := 2, rate := 15, loop := false, seed := 64 } }

/-- TC with a stream playing, its level 70. -/
def playing : State :=
  { tc with dmc :=
    { clock := { clk := 0x30000, cmp := 3, delta := 0x10000 }, offset := 1, bitOffset := 3, cur := 0xA5, addr := 0x1000, len := 2
      loop := true, out := 70 } }

/-- R183: only staging changes. -/
theorem test_wr_daddr :
    (one (.wrDaddr 0x2000) playing).stage.addr = 0x2000 ∧ (one (.wrDaddr 0x2000) playing).dmc.addr = 0x1000 := by
  exact ⟨rfl, rfl⟩

/-- R185. -/
theorem test_wr_dlen : (one (.wrDlen 2) tc).stage.len = 2 := by
  rfl

/-- R187. -/
theorem test_wr_dcfg : (one (.wrDcfg 15 true 64) tc).stage = { tc.stage with rate := 15, loop := true, seed := 64 } := by
  rfl

/-- R189, with TC's DMC_RATE_NTSC[15] = 0x10000. -/
theorem test_wr_dplay :
    (one .wrDplay staged).dmc =
      { tc.dmc with clock := { clk := 0, cmp := 0, delta := 0x10000 }, addr := 0x1000, len := 2, out := 64 } := by
  rfl

/-- R189 with R181: a PLAY while playing restarts, keeping the byte and the bit clock. -/
theorem test_wr_dplay_restarts :
    (one .wrDplay { playing with stage := staged.stage }).dmc =
      { playing.dmc with offset := 0, bitOffset := 0, loop := false, out := 64 } := by
  rfl

/-- R190: out = 70 while playing stays 70, delta 0. -/
theorem test_wr_dkill :
    (one .wrDkill playing).dmc =
      { playing.dmc with clock := { clk := 0x30000, cmp := 3, delta := 0 }, offset := 0, bitOffset := 0 } := by
  rfl

/-- R184. -/
theorem test_rd_daddr : shown .rdDaddr staged = some (.readData 0x1000) := by
  rfl

/-- R186. -/
theorem test_rd_dlen : shown .rdDlen staged = some (.readData 2) := by
  rfl

/-- R188. -/
theorem test_rd_dcfg : shown .rdDcfg (one (.wrDcfg 15 true 64) tc) = some (.readData 0x408F) := by
  rfl

/-- R191 after R190. -/
theorem test_rd_dout : shown .rdDout (one .wrDkill playing) = some (.readData 70) := by
  rfl

/-- R192: offset 1, bitOffset 3. -/
theorem test_rd_dpos : shown .rdDpos playing = some (.readData 0x00030001) := by
  rfl

/-- R193. -/
theorem test_rd_dclk : shown .rdDclk playing = some (.readData 0x30000) ∧ shown .rdDclk tc = some (.readData 0) := by
  exact ⟨rfl, rfl⟩

/-- R194. -/
theorem test_rd_dcmp : shown .rdDcmp playing = some (.readData 3) ∧ shown .rdDcmp tc = some (.readData 0) := by
  exact ⟨rfl, rfl⟩

/-- R195. -/
theorem test_rd_ddelta : shown .rdDdelta playing = some (.readData 0x10000) ∧ shown .rdDdelta tc = some (.readData 0) := by
  exact ⟨rfl, rfl⟩

/-- R203: the first effective clock of a stream whose first byte is 0xA5. -/
theorem test_rd_dcur : shown .rdDcur (one .tick (one .wrDplay staged)) = some (.readData 0xA5) := by
  rfl

/-- R204. -/
theorem test_rd_daaddr : shown .rdDaaddr (one .wrDplay staged) = some (.readData 0x1000) := by
  rfl

/-- R205: 2 after R189, and the loop bit at bit 16. -/
theorem test_rd_dalen :
    shown .rdDalen (one .wrDplay staged) = some (.readData 2) ∧ shown .rdDalen playing = some (.readData 0x10002) := by
  exact ⟨rfl, rfl⟩

/-- R196: cur 0b10100101 at bitOffset 1 gives 0 and d = -2 in FULL; at 0 in HALF it gives 0b01. -/
theorem test_dmc_bits :
    dmap .full (dmcTake .full { playing.dmc with bitOffset := 1 }) = -2 ∧
    dmcTake .half { playing.dmc with bitOffset := 0 } = 1 := by
  decide

/-- R197: its corner cases. -/
theorem test_dmc_clamp :
    dmcClamp 0 (-2) = 0 ∧ dmcClamp 1 (-2) = 0 ∧ dmcClamp 126 2 = 127 ∧ dmcClamp 125 4 = 127 ∧ dmcClamp 0 (-4) = 0 ∧
    dmcClamp 5 0 = 5 := by
  decide

/-- R221. -/
theorem test_wr_enable : (one (.wrEnable 3) tc).enable = 3 := by
  rfl

/-- R222. -/
theorem test_rd_enable : shown .rdEnable tc = some (.readData 0x1F) := by
  rfl

/-- R230. -/
theorem test_rd_dacl :
    shown .rdDacl tc = some (.readData 0) ∧ shown .rdDacl { tc with dacL := 40, dacR := 15 } = some (.readData 40) := by
  exact ⟨rfl, rfl⟩

/-- R231. -/
theorem test_rd_dacr : shown .rdDacr { tc with dacL := 40, dacR := 15 } = some (.readData 15) := by
  rfl

/-- TC with every level at its greatest, all enabled. -/
def loudest : State :=
  { tc with
    pulse1 := { acc := 0, delta := 0, duty := 1, vol := 15 }, pulse2 := { acc := 0, delta := 0, duty := 1, vol := 15 }
    tri := { acc := 0, delta := 0, gate := true, sample := 0 }, noise := { tc.noise with vol := 15, bit := 1 }
    dmc := { tc.dmc with out := 127 } }

/-- R240: TICK after RESET writes DacWrite(0, 0) and counts TICK_US. -/
theorem test_tick_reset :
    shown .tick tc = some (.dacWrite 0 0) ∧ (one .tick tc).micros = 45 ∧ (one .tick tc).msFrac = 45 ∧
    (one .tick tc).noise = tc.noise := by
  exact ⟨rfl, rfl, rfl, rfl⟩

/-- R223, R225: iL = iR = 30 and j = 202 give 50 + 146 = 196. -/
theorem test_tick_loudest : shown .tick loudest = some (.dacWrite 196 196) := by
  rfl

/-- R224, R225: p1 = 15, p2 = 0 alone gives iL = 22, iR = 7, so (40, 15). -/
theorem test_mix_sides : (mix { loudest with enable := 0b00001 }) = some (40, 15) := by
  rfl

/-- R242: TICK_US = 45, msFrac = 990 gives 35 and millis + 1. -/
theorem test_counter_carry :
    (counterStep { tc with msFrac := 990, millis := 7 }).msFrac = 35 ∧
    (counterStep { tc with msFrac := 990, millis := 7 }).millis = 8 := by
  exact ⟨rfl, rfl⟩

/-- R111, V-P2: acc 0x3FFF at duty 64 is high, 0x4000 is not; duty 255 is low at phase 0xFF only. -/
theorem test_pulse_corners :
    pulseOut { acc := 0x3FFF, delta := 0, duty := 64, vol := 15 } = 15 ∧ pulseOut { acc := 0x4000, delta := 0, duty := 64, vol := 15 } = 0 ∧
    pulseOut { acc := 0xFF00, delta := 0, duty := 255, vol := 9 } = 0 ∧ pulseOut { acc := 0xFEFF, delta := 0, duty := 255, vol := 9 } = 9 := by
  decide

/-- V-T1. -/
theorem test_tri_lut :
    [0x00, 0x07, 0x08, 0x78, 0x7F, 0x80, 0x87, 0x88, 0xF8, 0xFF].map (fun i : Fin 256 => defaultTriLut[i]) =
      [15, 15, 14, 0, 0, 0, 0, 1, 15, 15] := by
  rfl

/-- R261: a change emits one RegionLog; the second write emits nothing. -/
theorem test_wr_region :
    (one (.wrRegion .pal) tc).outputs = [.regionLog .pal] ∧
    (one (.wrRegion .pal) (one (.wrRegion .pal) tc)).outputs = [.regionLog .pal] := by
  exact ⟨rfl, rfl⟩

/-- R264: noise.delta is not looked up again. -/
theorem test_wr_region_keeps : (one (.wrRegion .pal) (one (.wrNrate 0) tc)).noise.clock.delta = 0x10000 := by
  rfl

/-- R262. -/
theorem test_rd_region :
    shown .rdRegion tc = some (.readData 0) ∧ shown .rdRegion { tc with region := .pal } = some (.readData 1) := by
  exact ⟨rfl, rfl⟩

/-- R263, with TC's frame periods. -/
theorem test_rd_frameus :
    shown .rdFrameus tc = some (.readData 16639) ∧ shown .rdFrameus { tc with region := .pal } = some (.readData 19997) := by
  exact ⟨rfl, rfl⟩

/-- R244. -/
theorem test_rd_micros : shown .rdMicros { tc with micros := 4500 } = some (.readData 0x1194) := by
  rfl

/-- R245. -/
theorem test_rd_millis : shown .rdMillis { tc with millis := 4 } = some (.readData 4) := by
  rfl

/-- R265: DMCF at bit 1, ILL at bit 0. -/
theorem test_rd_status : shown .rdStatus { tc with status := { ill := false, dmcf := true } } = some (.readData 2) := by
  rfl

/-- R265, V-E1: WR.PVOL 0, 16 writes nothing and RD.STATUS then returns 1. -/
theorem test_illegal_write :
    (got (step (placeInput tc (.command 0x10100000010)))).pulse1 = tc.pulse1 ∧
    shown .rdStatus (got (step (placeInput tc (.command 0x10100000010)))) = some (.readData 1) := by
  exact ⟨rfl, rfl⟩

/-- R301: an illegal read returns 0. -/
theorem test_illegal_read : (got (step (placeInput tc (.command 0x01000000000)))).outputs = [.readData 0] := by
  rfl

/-- R330: seed 1, enable 0b11111, the fault bits cleared, the configuration kept. -/
theorem test_reset :
    (one .reset { playing with status := { ill := true, dmcf := true }, enable := 0, outputs := [] }) =
      { tc with inputs := [] } := by
  exact rfl

/-- The host's view: WR.DCFG's word decodes and is the first operation from reset. -/
theorem test_fetch_word :
    decodeTableWord 48 0x1160000408F = some (.wrDcfg 15 true 64) ∧ decodeTableWord 48 0x10300000000 = none ∧
    (State.reset.withFetchWord 48 0x1160000408F).inputs = [.command 0x1160000408F] := by
  decide

/-! ### Witnesses: states and operands that meet the hypotheses of the obligations -/

/-- StepRunsTheDecodedOperation: an operation at the ports, and none. -/
theorem test_witness_step :
    (placeInput tc .tick).inputs = .tick :: [] ∧ decodeInput .tick = .ok .tick ∧ State.reset.inputs = [] := by
  refine ⟨rfl, rfl, rfl⟩

/-- DecodedWordsEncodeBack: a write, and a read with data bits. -/
theorem test_witness_decoded :
    decode 0x104000000C0 = .ok (.wrPduty .pulse2 0xC0) ∧ decode 0x02E12345678 = .ok .rdStatus ∧
    readWord (cwAddr 0x02E12345678) 0 = 0x02E00000000 := by
  refine ⟨rfl, rfl, by decide⟩

/-- DecodeNamesTheFirstIllegalCause: an address of no row, an RO, a WO and an RW row; a data word inside and one outside a mask. -/
theorem test_witness_rows :
    regMap.find? (fun r => r.addr == 0x21) = none ∧ (regMap.find? (fun r => r.addr == 0x03)).map RegRow.access = some .ro ∧
    (regMap.find? (fun r => r.addr == 0x17)).map RegRow.access = some .wo ∧
    regMap.find? (fun r => r.addr == 0x16) = some ⟨0x16, .rw, 0x00007F8F⟩ ∧
    cwData 0x1160000408F &&& ~~~0x00007F8F = 0 ∧ cwData 0x11600000010 &&& ~~~0x00007F8F ≠ 0 := by
  decide

/-- IllegalWordsOnlySetIll and the commands: an illegal write and an illegal read; a legal word. -/
theorem test_witness_illegal :
    wordLegal 0x10300000000 = false ∧ wordLegal 0x01700000000 = false ∧ wordLegal 0x10000000040 = true := by
  decide

/-- TriangleResults, UngatedTriangleDecays and RegatedTriangleStartsAtMidpoint: ungated and gated, sample 15 and 0. -/
theorem test_witness_gate :
    (tc.tri.gate = false ∧ tc.tri.sample.toNat ≤ 15) ∧
    ({ tc.tri with sample := 15 }.gate = false ∧ { tc.tri with sample := 15 }.sample.toNat ≤ 15) ∧ loudest.tri.gate = true := by
  decide

/-- NoiseWriteResults and RegionStatusCounterResults: both regions, and a region that does not hold. -/
theorem test_witness_region :
    tc.region = .ntsc ∧ { tc with region := .pal }.region = .pal ∧ Region.pal ≠ tc.region := by
  decide

/-- The statements about TICK's next state: TICK goes on in these states; gated, ungated above 0 and at 0. -/
theorem test_witness_tick_triangle :
    (∃ t, exec .tick loudest = .next t ∧ loudest.tri.gate = true) ∧ (∃ t, exec .tick tc = .next t ∧ tc.tri.gate = false) ∧
    ∃ t, exec .tick { tc with tri := { tc.tri with sample := 15 } } = .next t := by
  refine ⟨⟨_, goesOn_next _ rfl, rfl⟩, ⟨_, goesOn_next _ rfl, rfl⟩,
    ⟨_, goesOn_next _ rfl⟩⟩

/-- TickCompletes and TickRecordsADmcFetchFault: the sample at both ends of [0, 15]. -/
theorem test_witness_sample : tc.tri.sample.toNat ≤ 15 ∧ (15#8).toNat ≤ 15 := by
  decide

/-- A noise tick that is idle and one that is effective, in both modes. -/
theorem test_witness_tick_noise :
    (∃ t, exec .tick noiseRunning = .next t ∧
      (noiseRunning.noise.clock.clk + noiseRunning.noise.clock.delta).extractLsb' 16 16 = noiseRunning.noise.clock.cmp) ∧
    (∃ t, exec .tick (one (.wrNdelta 0x10000) tc) = .next t ∧
      ((one (.wrNdelta 0x10000) tc).noise.clock.clk + (one (.wrNdelta 0x10000) tc).noise.clock.delta).extractLsb' 16 16
        ≠ (one (.wrNdelta 0x10000) tc).noise.clock.cmp) := by
  refine ⟨⟨_, goesOn_next _ rfl, by decide⟩, ⟨_, goesOn_next _ rfl, by decide⟩⟩

/-- TickLeavesAnIdleDmc: an idle tick, and increment 0 with the comparison word serviced. -/
theorem test_witness_tick_dmc_idle :
    (∃ t, exec .tick tc = .next t) ∧ (tc.dmc.clock.clk + tc.dmc.clock.delta).extractLsb' 16 16 = tc.dmc.clock.cmp ∧
    tc.dmc.clock.delta = 0 ∧ tc.dmc.clock.Serviced := by
  refine ⟨⟨_, goesOn_next _ rfl⟩, by decide, by decide, by decide⟩

/-- TickRecordsADmcFetchFault: playing from an address where no memory answers. -/
theorem test_witness_fetch_fault :
    let s := { playing with dmc := { playing.dmc with bitOffset := 0, addr := 0x2000 } }
    s.tri.sample.toNat ≤ 15 ∧ (s.dmc.clock.clk + s.dmc.clock.delta).extractLsb' 16 16 ≠ s.dmc.clock.cmp ∧
      s.dmc.bitOffset = 0 ∧ memRead s.sampleMem (s.dmc.addr + s.dmc.offset.setWidth 32) = none := by
  decide

/-- TC with configuration changed to HALF. -/
def half : Config :=
  { Config.testVectors with dmcMode := .half }

theorem half_wf : half.wf = true := by
  decide +kernel

/-- The playing stream in HALF mode at bit 6, its last. -/
def playingHalf : State :=
  { playing with cfg := ⟨half, half_wf⟩, dmc := { playing.dmc with bitOffset := 6 } }

/-- TickAppliesTheDmcDelta and TickAdvancesTheDmcPosition: an effective clock with the byte held, with the byte fetched, and in
HALF mode. -/
theorem test_witness_effective :
    (∃ t, exec .tick playing = .next t ∧
      (playing.dmc.clock.clk + playing.dmc.clock.delta).extractLsb' 16 16 ≠ playing.dmc.clock.cmp ∧
      playing.dmc.bitOffset ≠ 0 ∧ playing.dmc.bitOffset ≠ 7) ∧
    (∃ t, exec .tick (one .wrDplay staged) = .next t ∧ (one .wrDplay staged).dmc.bitOffset = 0 ∧
      memRead (one .wrDplay staged).sampleMem
        ((one .wrDplay staged).dmc.addr + (one .wrDplay staged).dmc.offset.setWidth 32) = some 0xA5) ∧
    (∃ t, exec .tick playingHalf = .next t ∧ playingHalf.cfg.val.dmcMode = .half ∧ playingHalf.dmc.bitOffset = 6 ∧
      playingHalf.dmc.offset + 1 = playingHalf.dmc.len) := by
  refine ⟨⟨_, goesOn_next _ rfl, by decide, by decide, by decide⟩,
    ⟨_, goesOn_next _ rfl, by decide, by decide⟩,
    ⟨_, goesOn_next _ rfl, by decide, by decide, by decide⟩⟩

/-- TickAdvancesTheDmcPosition: the last bit of a byte that is not the last, and of the last byte, in FULL mode. -/
theorem test_witness_last_bit :
    (∃ t, exec .tick { playing with dmc := { playing.dmc with bitOffset := 7, offset := 0 } } = .next t ∧
      ({ playing.dmc with bitOffset := 7, offset := 0 } : Dmc).offset + 1 ≠ playing.dmc.len) ∧
    (∃ t, exec .tick { playing with dmc := { playing.dmc with bitOffset := 7 } } = .next t ∧
      playing.dmc.offset + 1 = playing.dmc.len ∧ playing.cfg.val.dmcMode = .full) := by
  refine ⟨⟨_, goesOn_next _ rfl, by decide⟩,
    ⟨_, goesOn_next _ rfl, by decide, by decide⟩⟩

/-- TickMixesTheLevels: every case of the two mode parameters has a state; the defaults are LUT and STEREO. -/
theorem test_witness_mix_modes :
    Config.wf { Config.testVectors with stereoMode := .mono } = true ∧
    Config.wf { Config.testVectors with mixMode := .linear } = true ∧ tc.cfg.val.mixMode = .lut ∧
    tc.cfg.val.stereoMode = .stereo := by
  decide +kernel

/-- TickCountsTime: msFrac at 954 stays below 1000 under TICK_US = 45, at 955 it carries; both TICKs go on. -/
theorem test_witness_counters :
    (∃ t, exec .tick { tc with msFrac := 954 } = .next t ∧ (954#10).toNat + tc.cfg.val.tickUs.val < 1000) ∧
    (∃ t, exec .tick { tc with msFrac := 955 } = .next t ∧ 1000 ≤ (955#10).toNat + tc.cfg.val.tickUs.val) ∧
    (955#10).toNat < 1000 := by
  refine ⟨⟨_, goesOn_next _ rfl, by decide⟩, ⟨_, goesOn_next _ rfl, by decide⟩,
    by decide⟩

/-- PulseIsHighOnDutyPhases, NonzeroSeedStaysNonzero, EffectiveClocksFollowTheRate: a nonzero volume; a nonzero seed with a step
that goes on; a serviced clock at both ends of the increments. -/
theorem test_witness_channels :
    loudest.pulse1.vol ≠ 0 ∧ (∃ t, tc.noise.seed ≠ 0 ∧ tc.inputs.head? ≠ some (encode (.wrNseed 0)) ∧ step tc = .next t) ∧
    ({ clk := 0xC000, cmp := 0, delta := 1 } : BitClock).Serviced ∧
    ({ clk := 0xC000, cmp := 0, delta := 0xFFFF } : BitClock).Serviced := by
  refine ⟨by decide, ⟨tc, by decide, by decide, step_idle tc rfl⟩, by decide, by decide⟩

/-- LfsrShiftIsInvertible: a zero and a nonzero seed. -/
theorem test_witness_seeds : ({ tc.noise with seed := 0 } : Noise).seed = 0 ∧ tc.noise.seed ≠ 0 := by
  decide

/-- DmcPlaysTheWholeBufferOnce and DmcLoopReturnsToItsStart: TC's two bytes, once and looping. -/
theorem test_witness_buffer :
    let s := one .wrDplay staged
    s.dmc.offset = 0 ∧ s.dmc.bitOffset = 0 ∧ s.dmc.loop = false ∧ s.dmc.len ≠ 0 ∧
      (∀ k, k < s.dmc.len.toNat → (memRead s.sampleMem (s.dmc.addr + BitVec.ofNat 32 k)).isSome = true) ∧
      ({ s.dmc with loop := true } : Dmc).loop = true := by
  decide

/-- Steps that go on, with the fault bits set: what FaultBitsAreSticky, StepsKeepConfigurationAndMemory and
StepKeepsTheInvariants assume. -/
theorem test_witness_whole_machine :
    let s := placeInput { tc with status := { ill := true, dmcf := true } } .tick
    (∃ t, step s = .next t) ∧ s.inputs.head? ≠ some .reset ∧ s.inputs.head? ≠ some .resetDuringTick ∧
      s.status.ill = true ∧ s.status.dmcf = true ∧ s.Inv := by
  refine ⟨⟨_, goesOn_next _ rfl⟩, by decide, by decide, rfl, rfl, by decide⟩

/-- ReadsOnlyReturnData: a read. -/
theorem test_witness_read : isRead .rdDcfg = true ∧ isRead .wrDplay = false := by
  decide

/-- EnableOnlyGatesTheMix and TickReadsNeitherRegionNorStaging: TICK goes on with any of these. -/
theorem test_witness_enable :
    (∃ t, exec .tick loudest = .next t) ∧ ∃ u, exec .tick { loudest with enable := 3 } = .next u := by
  refine ⟨⟨_, goesOn_next _ rfl⟩, ⟨_, goesOn_next _ rfl⟩⟩

/-- ChannelFieldsChangeOnlyByTheirWriters and GlobalFieldsChangeOnlyByTheirWriters: instructions other than RESET that go on and
change a field of a channel and a global field. -/
theorem test_witness_writers :
    (∃ t, exec .tick playing = .next t ∧ Instr.tick ≠ .reset ∧ t.dmc.bitOffset ≠ playing.dmc.bitOffset ∧
      t.micros ≠ playing.micros) ∧
    ∃ t, exec (.wrEnable 3) tc = .next t ∧ Instr.wrEnable 3 ≠ .reset ∧ t.enable ≠ tc.enable := by
  refine ⟨⟨_, goesOn_next _ rfl, by decide, by decide, by decide⟩,
    ⟨_, rfl, by decide, by decide⟩⟩

end Sys2Proof.Tests
end

section
/-! SUPPORT. When a configuration is admitted (00_scope.md R6): what maxEntry bounds, and the two checks of Config.wf read entry by
entry. -/

namespace Sys2Proof

@[simp] theorem maxEntry_nil : maxEntry [] = 0 := rfl

@[simp] theorem maxEntry_cons (b : Byte) (l : List Byte) : maxEntry (b :: l) = max b.toNat (maxEntry l) := rfl

theorem le_maxEntry {l : List Byte} {b : Byte} (h : b ∈ l) : b.toNat ≤ maxEntry l := by
  induction h with
  | head l => exact Nat.le_max_left ..
  | tail a _ ih => exact ih.trans (Nat.le_max_right ..)

/-- The empty list is excluded: `maxEntry` answers 0 there, which no entry attains. -/
theorem exists_mem_toNat_eq_maxEntry {l : List Byte} (h : l ≠ []) : ∃ b ∈ l, b.toNat = maxEntry l := by
  induction l with
  | nil => exact absurd rfl h
  | cons a l ih =>
    rcases Nat.le_total (maxEntry l) a.toNat with hle | hle
    · exact ⟨a, by simp, by simp [hle]⟩
    · by_cases hl : l = []
      · exact ⟨a, by simp, by simp [hl]⟩
      · obtain ⟨b, hb, hmax⟩ := ih hl
        exact ⟨b, by simp [hb], by simp [hmax, hle]⟩

theorem maxEntry_add_maxEntry_le_iff {l m : List Byte} (hl : l ≠ []) (hm : m ≠ []) (n : Nat) :
    maxEntry l + maxEntry m ≤ n ↔ ∀ a ∈ l, ∀ b ∈ m, a.toNat + b.toNat ≤ n := by
  constructor
  · intro h a ha b hb
    exact (Nat.add_le_add (le_maxEntry ha) (le_maxEntry hb)).trans h
  · intro h
    obtain ⟨a, ha, hamax⟩ := exists_mem_toNat_eq_maxEntry hl
    obtain ⟨b, hb, hbmax⟩ := exists_mem_toNat_eq_maxEntry hm
    exact hamax ▸ hbmax ▸ h a ha b hb

theorem Config.triLutOk_iff (c : Config) : c.triLutOk = true ↔ ∀ i : Fin 256, c.triLut[i].toNat ≤ 15 := by
  simp [Config.triLutOk, Fin.forall_iff]

theorem Config.sumOk_iff (c : Config) :
    c.sumOk = true ↔ ∀ (i : Fin 31) (j : Fin 203), c.pulseLut[i].toNat + c.tndLut[j].toNat ≤ 255 := by
  have hpulse : c.pulseLut.toList ≠ [] := List.ne_nil_of_length_pos (by simp)
  have htnd : c.tndLut.toList ≠ [] := List.ne_nil_of_length_pos (by simp)
  rw [Config.sumOk, decide_eq_true_iff, maxEntry_add_maxEntry_le_iff hpulse htnd]
  simp [Vector.forall_mem_iff_forall_getElem, Fin.forall_iff]

theorem Config.wf_iff (c : Config) : c.wf = true ↔ c.triLutOk = true ∧ c.sumOk = true :=
  Bool.and_eq_true_iff

theorem Config.accept_isSome_iff_wf (c : Config) : c.accept.isSome = true ↔ c.wf = true := by
  by_cases h : c.wf = true <;> simp [Config.accept, h]

/-- Settles O59: accept checks exactly wf, and each check of wf is read entry by entry; the bound on the sum of the two greatest
entries says the same of every pair because both tables are nonempty. -/
theorem illFormedConfigurationsAreRefused : Obligations.IllFormedConfigurationsAreRefused := by
  intro c
  rw [c.accept_isSome_iff_wf, c.wf_iff, c.triLutOk_iff, c.sumOk_iff]

end Sys2Proof
end

section
/-! SUPPORT. What a TICK keeps, channel by channel (40_phase_clock.md R102, 43_noise.md R150 to R153, 44_dmc.md R182, R196 to R201,
45_mixer.md R223 to R228, 46_callback.md R240 to R242): the invariants of 10_state.md R25, and the fields no tick step writes. -/

namespace Sys2Proof.Machine

theorem bitClockStep_serviced (k : BitClock) : (bitClockStep k).1.Serviced := by
  rw [bitClockStep_fst]

@[simp] theorem bitClockStep_delta (k : BitClock) : (bitClockStep k).1.delta = k.delta := by
  rw [bitClockStep_fst]

@[simp] theorem pulseStep_delta (p : Pulse) : (pulseStep p).delta = p.delta := rfl
@[simp] theorem pulseStep_duty (p : Pulse) : (pulseStep p).duty = p.duty := rfl
@[simp] theorem pulseStep_vol (p : Pulse) : (pulseStep p).vol = p.vol := rfl

@[simp] theorem triStep_delta (c : Config) (t : Tri) : (triStep c t).delta = t.delta := by
  simp only [triStep]; split
  · rfl
  · split <;> rfl

@[simp] theorem triStep_gate (c : Config) (t : Tri) : (triStep c t).gate = t.gate := by
  simp only [triStep]; split
  · rfl
  · split <;> rfl

@[simp] theorem noiseStep_delta (n : Noise) : (noiseStep n).clock.delta = n.clock.delta := by
  rw [noiseStep_clock, bitClockStep_delta]

/-- An LFSR shift moves every bit of the seed down by one (R151). -/
theorem lfsrShift_getLsbD (n : Noise) {i : Nat} (h : i < 14) :
    (lfsrShift n).seed.getLsbD i = n.seed.getLsbD (i + 1) := by
  simp only [lfsrShift, BitVec.getLsbD_append, BitVec.getLsbD_extractLsb']
  simp [h, Nat.add_comm]

/-- The top bit of the shifted seed is the feedback (R151). -/
theorem lfsrShift_getLsbD_top (n : Noise) :
    (lfsrShift n).seed.getLsbD 14 = (n.seed.getLsbD 0 ^^ n.seed.getLsbD (lfsrTap n.short)) := by
  rw [lfsrShift, BitVec.getLsbD_append]
  simp

/-- Only the zero seed shifts to zero: bits 1 to 14 stand in the shifted seed, and then bit 0 is its feedback (R153). -/
theorem lfsrShift_seed_ne_zero (n : Noise) (h : n.seed ≠ 0) : (lfsrShift n).seed ≠ 0 := by
  intro h0
  have hupper : ∀ i, 0 < i → i < 15 → n.seed.getLsbD i = false := by
    intro i hpos hi
    have hbit := lfsrShift_getLsbD n (i := i - 1) (by omega)
    simpa [h0, Nat.sub_add_cancel hpos] using hbit.symm
  have htap : n.seed.getLsbD (lfsrTap n.short) = false := by
    cases n.short <;> exact hupper _ (by decide) (by decide)
  have htop := lfsrShift_getLsbD_top n
  apply h
  apply BitVec.eq_of_getLsbD_eq
  intro i hi
  rcases Nat.eq_zero_or_pos i with rfl | hpos
  · simpa [h0, htap] using htop.symm
  · simpa using hupper i hpos hi

theorem noiseStep_seed_ne_zero (n : Noise) (h : n.seed ≠ 0) : (noiseStep n).seed ≠ 0 := by
  rw [noiseStep_eq]
  split
  · exact h
  · exact lfsrShift_seed_ne_zero _ h

@[simp] theorem dmcStop_clock (c : Config) (d : Dmc) :
    (dmcStop c d).clock = { (dmcReset c d).clock with delta := 0 } := rfl
@[simp] theorem dmcStop_offset (c : Config) (d : Dmc) : (dmcStop c d).offset = 0 := rfl
@[simp] theorem dmcStop_bitOffset (c : Config) (d : Dmc) : (dmcStop c d).bitOffset = 0 := rfl
@[simp] theorem dmcStop_out (c : Config) (d : Dmc) : (dmcStop c d).out = d.out := rfl
@[simp] theorem dmcStop_cur (c : Config) (d : Dmc) : (dmcStop c d).cur = d.cur := rfl
@[simp] theorem dmcStop_addr (c : Config) (d : Dmc) : (dmcStop c d).addr = d.addr := rfl
@[simp] theorem dmcStop_len (c : Config) (d : Dmc) : (dmcStop c d).len = d.len := rfl
@[simp] theorem dmcStop_loop (c : Config) (d : Dmc) : (dmcStop c d).loop = d.loop := rfl

theorem dmcStop_serviced (c : Config) (d : Dmc) (h : d.clock.Serviced) : (dmcStop c d).clock.Serviced :=
  dmcReset_serviced c d h

@[simp] theorem dmcLoad_cur (c : Config) (r : Region) (g : DmcStage) (d : Dmc) : (dmcLoad c r g d).cur = d.cur := rfl

/-- The stream position moves within its byte, or to the next byte, or the stream ends and wraps or stops (R198). -/
theorem dmcAdvance_cases (c : Config) (d : Dmc) :
    dmcAdvance c d = { d with bitOffset := d.bitOffset + BitVec.ofNat 3 (dmcBits c.dmcMode) } ∨
    dmcAdvance c d = { d with bitOffset := 0, offset := d.offset + 1 } ∨
    dmcAdvance c d = dmcReset c { d with bitOffset := 0, offset := d.offset + 1 } ∨
    dmcAdvance c d = dmcStop c { d with bitOffset := 0, offset := d.offset + 1 } := by
  unfold dmcAdvance dmcEnd
  split
  · dsimp only
    split
    · split
      · exact .inr (.inr (.inl rfl))
      · exact .inr (.inr (.inr rfl))
    · exact .inr (.inl rfl)
  · exact .inl rfl

theorem dmcAdvance_serviced (c : Config) (d : Dmc) (h : d.clock.Serviced) : (dmcAdvance c d).clock.Serviced := by
  rcases dmcAdvance_cases c d with he | he | he | he <;> rw [he]
  · exact h
  · exact h
  · exact dmcReset_serviced c _ h
  · exact dmcStop_serviced c _ h

theorem getLsbD_zero_add_two (b : BitVec 3) : (b + 2).getLsbD 0 = b.getLsbD 0 := by
  decide +revert

/-- In HALF mode the position moves by two bits or back to 0, so it stays even (R25). -/
theorem dmcAdvance_bitOffset_even (c : Config) (d : Dmc) (hc : c.dmcMode = .half) (h : d.bitOffset.getLsbD 0 = false) :
    (dmcAdvance c d).bitOffset.getLsbD 0 = false := by
  rcases dmcAdvance_cases c d with he | he | he | he <;> rw [he]
  · rw [hc]
    exact (getLsbD_zero_add_two d.bitOffset).trans h
  · exact BitVec.getLsbD_zero
  · exact BitVec.getLsbD_zero
  · exact BitVec.getLsbD_zero

/-- An advance of the position keeps the stream it plays: addr, len and loop. -/
theorem dmcAdvance_stream (c : Config) (d : Dmc) :
    (dmcAdvance c d).addr = d.addr ∧ (dmcAdvance c d).len = d.len ∧ (dmcAdvance c d).loop = d.loop := by
  rcases dmcAdvance_cases c d with he | he | he | he <;> rw [he] <;> exact ⟨rfl, rfl, rfl⟩

/-- The DMC after a tick: its clock advanced and no more, or the stream stopped by a fetch fault, or a byte b played to the level o
and the position advanced (R182, R201). -/
theorem dmcAfter_dmcStep_cases (c : Config) (m : Memory) (d : Dmc) :
    dmcAfter c (dmcStep c m d) = { d with clock := (bitClockStep d.clock).1 } ∨
    dmcAfter c (dmcStep c m d) = dmcStop c { d with clock := (bitClockStep d.clock).1 } ∨
    ∃ b o, dmcAfter c (dmcStep c m d) = dmcAdvance c { d with clock := (bitClockStep d.clock).1, cur := b, out := o } := by
  rw [dmcStep_eq]
  split
  · exact .inl rfl
  · rcases dmcClock_cases c m { d with clock := (bitClockStep d.clock).1 } with ⟨-, he⟩ | ⟨b, -, he⟩ <;> rw [he]
    · exact .inr (.inl rfl)
    · exact .inr (.inr ⟨b, _, rfl⟩)

theorem dmcAfter_dmcStep_serviced (c : Config) (m : Memory) (d : Dmc) : (dmcAfter c (dmcStep c m d)).clock.Serviced := by
  have hk := bitClockStep_serviced d.clock
  rcases dmcAfter_dmcStep_cases c m d with he | he | ⟨b, o, he⟩ <;> rw [he]
  · exact hk
  · exact dmcStop_serviced c _ hk
  · exact dmcAdvance_serviced c _ hk

theorem dmcAfter_dmcStep_bitOffset_even (c : Config) (m : Memory) (d : Dmc) (hc : c.dmcMode = .half)
    (h : d.bitOffset.getLsbD 0 = false) : (dmcAfter c (dmcStep c m d)).bitOffset.getLsbD 0 = false := by
  rcases dmcAfter_dmcStep_cases c m d with he | he | ⟨b, o, he⟩ <;> rw [he]
  · exact h
  · exact BitVec.getLsbD_zero
  · exact dmcAdvance_bitOffset_even c _ hc h

theorem dmcAfter_dmcStep_stream (c : Config) (m : Memory) (d : Dmc) :
    (dmcAfter c (dmcStep c m d)).addr = d.addr ∧ (dmcAfter c (dmcStep c m d)).len = d.len ∧
      (dmcAfter c (dmcStep c m d)).loop = d.loop := by
  rcases dmcAfter_dmcStep_cases c m d with he | he | ⟨b, o, he⟩ <;> rw [he]
  · exact ⟨rfl, rfl, rfl⟩
  · exact ⟨rfl, rfl, rfl⟩
  · exact dmcAdvance_stream c _

/-! ### TICK -/

theorem counterStep_msFrac_lt (s : State) (h : s.msFrac.toNat < 1000) : (counterStep s).msFrac.toNat < 1000 := by
  obtain ⟨-, hus⟩ := s.cfg.val.tickUs.property
  rw [counterStep_eq]
  simp only [BitVec.toNat_ofNat]
  split <;> omega

theorem gated_toNat_le {w : Nat} (e : BitVec 5) (k : Nat) (level : BitVec w) : (gated e k level).toNat ≤ level.toNat := by
  unfold gated
  split <;> simp

/-- The tnd index is at most 3·15 + 2·15 + 127 = 202 (R228). -/
theorem tndIndex_lt (s : State) (h : s.tri.sample.toNat ≤ 15) : tndIndex s < 203 := by
  have ht := gated_toNat_le s.enable 2 (triOut s.tri)
  have hn := gated_toNat_le s.enable 3 (noiseOut s.noise)
  have hd := gated_toNat_le s.enable 4 (dmcOut s.dmc)
  have ht' : (triOut s.tri).toNat ≤ 15 := h
  have hn' := (noiseOut s.noise).isLt
  have hd' := (dmcOut s.dmc).isLt
  unfold tndIndex
  omega

theorem execTick_of_mix {s : State} {l r : Byte} (h : mix (advanceChannels s) = some (l, r)) :
    execTick s = .next (counterStep ((advanceChannels s).dacWrite l r)) := by
  simp [execTick, h]

theorem execTick_completes (s : State) (h : s.tri.sample.toNat ≤ 15) : ∃ t, execTick s = .next t := by
  have hs : (advanceChannels s).tri.sample.toNat ≤ 15 := by
    rw [advanceChannels_eq]
    exact triStep_sample_le s.cfg s.tri h
  have hm : (mix (advanceChannels s)).isSome = true := by
    simpa [mix_isSome] using tndIndex_lt _ hs
  obtain ⟨⟨l, r⟩, hm⟩ := Option.isSome_iff_exists.mp hm
  exact ⟨_, execTick_of_mix hm⟩

theorem tick_keeps_inv (s : State) (l r : Byte) (h : s.Inv) : (counterStep ((advanceChannels s).dacWrite l r)).Inv := by
  obtain ⟨-, -, hsample, hfrac, heven, hmem⟩ := h
  have hfrac' := counterStep_msFrac_lt ((advanceChannels s).dacWrite l r) (by simpa [advanceChannels_eq] using hfrac)
  rw [counterStep_eq, advanceChannels_eq] at hfrac' ⊢
  refine ⟨?_, dmcAfter_dmcStep_serviced _ _ _, triStep_sample_le _ _ hsample, hfrac', ?_, hmem⟩
  · simpa [noiseStep_clock] using bitClockStep_serviced s.noise.clock
  · intro hc
    exact dmcAfter_dmcStep_bitOffset_even _ _ _ hc (heven hc)

end Sys2Proof.Machine
end

section
/-! SUPPORT. Decoding read backwards: which word and which input an instruction can have come from (30_encoding.md R71 to R76). -/

namespace Sys2Proof

open Sys2Proof.Machine

/-- A write word is its address and its data. -/
theorem writeWord_cwAddr_cwData (cw : CommandWord) (h : cwWrite cw = true) : writeWord (cwAddr cw) (cwData cw) = cw := by
  apply BitVec.eq_of_getLsbD_eq
  intro i hi
  rw [writeWord, getLsbD_word, cwData, cwAddr, BitVec.getLsbD_extractLsb', BitVec.getLsbD_extractLsb']
  split
  · next hd => simp [hd]
  · next hd =>
    split
    · next ha => simp [ha, Nat.add_sub_cancel' (Nat.le_of_not_lt hd)]
    · obtain rfl : i = 40 := by omega
      exact h.symm

/-- A data word inside a mask of the low w bits is its low field. -/
theorem setWidth_field_of_masked {w : Nat} (d mask : Data) (h : d &&& ~~~mask = 0)
    (hm : ∀ i, i < 32 → w ≤ i → mask.getLsbD i = false) : (field d 0 w).setWidth 32 = d := by
  apply BitVec.eq_of_getLsbD_eq
  intro i hi
  by_cases hw : i < w
  · simp [field, hi, hw]
  · have hbit := congrArg (·.getLsbD i) h
    simp only [BitVec.getLsbD_and, BitVec.getLsbD_not, hm i hi (Nat.le_of_not_lt hw)] at hbit
    simpa [field, hi, hw] using hbit.symm

/-- What decodes is the write instruction of its row, with the data inside the row's mask, or the read instruction (R75). -/
theorem decode_ok {cw : CommandWord} {i : Instr} (h : decode cw = .ok i) :
    ∃ e, mapAddr (cwAddr cw) = some e ∧
      ((cwWrite cw = true ∧ ∃ mask build,
          e.write = some (mask, build) ∧ cwData cw &&& ~~~mask = 0 ∧ build (cwData cw) = i) ∨
        (cwWrite cw = false ∧ e.read = some i)) := by
  unfold decode decodeParts at h
  cases hrow : mapAddr (cwAddr cw) with
  | none => simp [hrow] at h
  | some e =>
    refine ⟨e, rfl, ?_⟩
    cases hcw : cwWrite cw with
    | true =>
      rcases hw : e.write with _ | ⟨mask, build⟩
      · simp [hrow, hcw, hw] at h
      · simp only [hrow, hcw, hw, if_true] at h
        split at h
        · next hmask => exact .inl ⟨rfl, mask, build, rfl, hmask, Except.ok.inj h⟩
        · cases h
    | false =>
      cases hr : e.read with
      | none => simp [hrow, hcw, hr] at h
      | some j => simpa [hrow, hcw, hr] using h

/-- No row writes RESET, and only the row of NSEED writes the seed (R73, R74). -/
theorem mapRow_write {c : PulseChan} {n : Nat} {e : RegDecode} {mask : Data} {build : Data → Instr} (d : Data)
    (h : mapRow c n = some e) (hw : e.write = some (mask, build)) :
    build d ≠ .reset ∧ ∀ v, build d = .wrNseed v → n = 0x0E ∧ mask = 0x7FFF ∧ field d 0 15 = v := by
  unfold mapRow at h
  split at h
  all_goals cases h <;> cases hw <;> simp

/-- What a row reads is a read (R73). -/
theorem mapRow_read {c : PulseChan} {n : Nat} {e : RegDecode} {i : Instr} (h : mapRow c n = some e)
    (hr : e.read = some i) : isRead i = true := by
  unfold mapRow at h
  split at h
  all_goals cases h <;> cases hr <;> simp [isRead, encode, inputIsRead]

theorem decode_ne_reset (cw : CommandWord) : decode cw ≠ .ok .reset := by
  intro h
  obtain ⟨e, hrow, ⟨-, mask, build, hw, -, hb⟩ | ⟨-, hr⟩⟩ := decode_ok h
  · exact (mapRow_write _ hrow hw).1 hb
  · exact absurd (mapRow_read hrow hr) (by decide)

/-- Only the RESET inputs are decoded as RESET (R76, R241). -/
theorem decodeInput_eq_reset {x : Input} (h : decodeInput x = .ok .reset) : x = .reset ∨ x = .resetDuringTick := by
  cases x with
  | command cw => exact absurd h (decode_ne_reset cw)
  | tick => simp [decodeInput] at h
  | reset => exact .inl rfl
  | resetDuringTick => exact .inr rfl

/-- The only word of WR.NSEED v is the one its encoding gives (R73, R158). -/
theorem decode_eq_wrNseed {cw : CommandWord} {v : BitVec 15} (h : decode cw = .ok (.wrNseed v)) :
    cw = writeWord 0x0E (v.setWidth 32) := by
  obtain ⟨e, hrow, ⟨hcw, mask, build, hw, hmask, hb⟩ | ⟨-, hr⟩⟩ := decode_ok h
  · obtain ⟨haddr, rfl, hv⟩ := (mapRow_write _ hrow hw).2 v hb
    have haddr : cwAddr cw = 0x0E := BitVec.eq_of_toNat_eq haddr
    rw [← hv, setWidth_field_of_masked _ _ hmask (by decide), ← haddr, writeWord_cwAddr_cwData cw hcw]
  · exact absurd (mapRow_read hrow hr) (by simp [isRead, encode, inputIsRead])

theorem decodeInput_eq_wrNseed {x : Input} {v : BitVec 15} (h : decodeInput x = .ok (.wrNseed v)) :
    x = encode (.wrNseed v) := by
  cases x with
  | command cw => rw [decode_eq_wrNseed h, encode]
  | tick | reset | resetDuringTick => simp [decodeInput] at h

end Sys2Proof
end

section
/-! SUPPORT. What an instruction can do, said once as a relation between the states before and after it; what every step keeps, and
how a run goes on, follow from it (10_state.md R12 to R20, R25, 20_memory.md R58). -/

namespace Sys2Proof.Machine

/-- What an instruction that answers a next state leaves, by instruction; every read falls under one case. -/
inductive Effect (s : State) : Instr → State → Prop
  | wrPduty (c : PulseChan) (v : Byte) : Effect s (.wrPduty c v) (s.setPulse c { s.pulse c with duty := v })
  | wrPvol (c : PulseChan) (v : BitVec 4) : Effect s (.wrPvol c v) (s.setPulse c { s.pulse c with vol := v })
  | wrPdelta (c : PulseChan) (v : BitVec 16) : Effect s (.wrPdelta c v) (s.setPulse c { s.pulse c with delta := v })
  | wrTgate (g : Bool) : Effect s (.wrTgate g)
      { s with tri := { s.tri with gate := g, acc := if g && !s.tri.gate then 0x8000 else s.tri.acc } }
  | wrTdelta (v : BitVec 16) : Effect s (.wrTdelta v) { s with tri := { s.tri with delta := v } }
  | wrNvol (v : BitVec 4) : Effect s (.wrNvol v) { s with noise := { s.noise with vol := v } }
  | wrNmode (b : Bool) : Effect s (.wrNmode b) { s with noise := { s.noise with short := b } }
  | wrNseed (v : BitVec 15) : Effect s (.wrNseed v) { s with noise := { s.noise with seed := v } }
  | wrNdelta (v : Data) : Effect s (.wrNdelta v) { s with noise := s.noise.setDelta v }
  | wrNrate (k : BitVec 4) : Effect s (.wrNrate k)
      { s with noise := s.noise.setDelta (noiseRate s.cfg.val s.region k) }
  | wrDaddr (v : Data) : Effect s (.wrDaddr v) { s with stage := { s.stage with addr := v } }
  | wrDlen (v : BitVec 16) : Effect s (.wrDlen v) { s with stage := { s.stage with len := v } }
  | wrDcfg (r : BitVec 4) (l : Bool) (g : BitVec 7) : Effect s (.wrDcfg r l g)
      { s with stage := { s.stage with rate := r, loop := l, seed := g } }
  | wrDplay : Effect s .wrDplay { s with dmc := dmcReset s.cfg.val (dmcLoad s.cfg.val s.region s.stage s.dmc) }
  | wrDkill : Effect s .wrDkill { s with dmc := dmcStop s.cfg.val s.dmc }
  | wrEnable (v : BitVec 5) : Effect s (.wrEnable v) { s with enable := v }
  | wrRegionSame : Effect s (.wrRegion s.region) s
  | wrRegionChange (r : Region) (h : r ≠ s.region) : Effect s (.wrRegion r)
      { s with region := r, outputs := .regionLog r :: s.outputs }
  | read (i : Instr) (h : isRead i = true) (v : Data) : Effect s i (s.returnRead v)
  | tick (l r : Byte) (h : mix (advanceChannels s) = some (l, r)) : Effect s .tick
      (counterStep ((advanceChannels s).dacWrite l r))
  | reset : Effect s .reset
      { State.reset with cfg := s.cfg, sampleMem := s.sampleMem, inputs := s.inputs, outputs := s.outputs }

/-- An instruction that answers a next state leaves its effect. -/
theorem exec_effect {i : Instr} {s t : State} (h : exec i s = .next t) : Effect s i t := by
  cases i
  case tick =>
    obtain ⟨l, r, hm, rfl⟩ := execTick_next s t h
    exact .tick l r hm
  case wrRegion r =>
    by_cases hr : r = s.region
    · obtain rfl : s = t := by simpa [exec, execWrRegion, hr] using h
      exact hr ▸ .wrRegionSame
    · obtain rfl : { s with region := r, outputs := .regionLog r :: s.outputs } = t := by
        simpa [exec, execWrRegion, hr] using h
      exact .wrRegionChange r hr
  all_goals
    cases h
    constructor
  all_goals simp [isRead, encode, inputIsRead]

theorem effect_inputs {i : Instr} {s t : State} (e : Effect s i t) : t.inputs = s.inputs := by
  cases e with
  | wrPduty c _ | wrPvol c _ | wrPdelta c _ => exact State.setPulse_inputs s c _
  | tick l r _ => rw [counterStep_eq, advanceChannels_eq]; rfl
  | _ => rfl

theorem setPulse_keeps_inv {s : State} (h : s.Inv) (c : PulseChan) (p : Pulse) : (s.setPulse c p).Inv := by
  cases c <;> exact h

/-- A DMC at the start of a byte keeps the invariants when its comparison word is serviced (R25). -/
theorem setDmc_keeps_inv {s : State} (h : s.Inv) (d : Dmc) (hclock : d.clock.Serviced) (hbit : d.bitOffset = 0) :
    State.Inv { s with dmc := d } := by
  obtain ⟨hnoise, -, hsample, hfrac, -, hmem⟩ := h
  exact ⟨hnoise, hclock, hsample, hfrac, fun _ => hbit ▸ BitVec.getLsbD_zero, hmem⟩

/-- RESET answers a state that meets the invariants from every state with a canonical sample memory (R25, R330). -/
theorem reset_inv (s : State) (h : Memory.wf s.sampleMem = true) :
    State.Inv { State.reset with cfg := s.cfg, sampleMem := s.sampleMem, inputs := s.inputs, outputs := s.outputs } :=
  ⟨(by decide : (0 : BitVec 16) = compareWord 0), (by decide : (0 : BitVec 16) = compareWord 0), Nat.zero_le 15,
    Nat.zero_lt_succ 999, fun _ => BitVec.getLsbD_zero, h⟩

theorem effect_keeps_inv {i : Instr} {s t : State} (e : Effect s i t) (h : s.Inv) : t.Inv := by
  obtain ⟨-, hclock, -, -, -, hmem⟩ := id h
  cases e with
  | wrPduty c _ | wrPvol c _ | wrPdelta c _ => exact setPulse_keeps_inv h c _
  | wrDplay => exact setDmc_keeps_inv h _ (dmcReset_serviced _ (dmcLoad _ _ _ _) hclock) rfl
  | wrDkill => exact setDmc_keeps_inv h _ (dmcStop_serviced _ _ hclock) rfl
  | tick l r _ => exact tick_keeps_inv s l r h
  | reset => exact reset_inv s hmem
  | _ => exact h

theorem effect_seed_ne_zero {i : Instr} {s t : State} (e : Effect s i t) (hi : i ≠ .wrNseed 0) (h : s.noise.seed ≠ 0) :
    t.noise.seed ≠ 0 := by
  cases e with
  | wrPduty | wrPvol | wrPdelta => simpa using h
  | wrNseed v => exact fun hv : v = 0 => hi (hv ▸ rfl)
  | tick l r _ =>
    rw [counterStep_eq, advanceChannels_eq]
    exact noiseStep_seed_ne_zero s.noise h
  | reset => exact (by decide : (1 : BitVec 15) ≠ 0)
  | _ => exact h

theorem effect_keeps_fault_bits {i : Instr} {s t : State} (e : Effect s i t) (hi : i ≠ .reset) :
    (s.status.ill = true → t.status.ill = true) ∧ (s.status.dmcf = true → t.status.dmcf = true) := by
  cases e with
  | wrPduty | wrPvol | wrPdelta => simp
  | tick l r _ =>
    rw [counterStep_eq, advanceChannels_eq]
    exact ⟨id, fun hf => by simp [hf]⟩
  | reset => exact absurd rfl hi
  | _ => exact ⟨id, id⟩

/-! ### Steps and runs -/

/-- Every instruction but TICK answers a next state in every state, and TICK does while the triangle sample is at most 15 (R228). -/
theorem exec_completes (i : Instr) (s : State) (h : s.tri.sample.toNat ≤ 15) : ∃ t, exec i s = .next t := by
  cases i
  case tick => exact execTick_completes s h
  all_goals exact ⟨_, rfl⟩

theorem step_completes (s : State) (h : s.tri.sample.toNat ≤ 15) : ∃ t, step s = .next t := by
  cases hin : s.inputs with
  | nil => exact ⟨s, step_idle s hin⟩
  | cons x rest =>
    rw [step_cons s x rest hin]
    cases decodeInput x with
    | ok i => exact exec_completes i _ h
    | error e => exact ⟨_, rfl⟩

/-- A step takes the first operation off the ports (R58). -/
theorem step_inputs {s t : State} (h : step s = .next t) : t.inputs = s.inputs.tail := by
  rcases step_cases s t h with ⟨hin, rfl⟩ | ⟨x, rest, i, hin, -, hx⟩ | ⟨x, rest, e, hin, -, rfl⟩
  · simp [hin]
  · rw [effect_inputs (exec_effect hx), hin, List.tail_cons]
  · rw [State.raiseIllegal_inputs, hin, List.tail_cons]

theorem raiseIllegal_keeps_inv {s : State} (h : s.Inv) (b : Bool) : (s.raiseIllegal b).Inv := by
  cases b <;> exact h

theorem step_keeps_inv {s t : State} (h : s.Inv) (hstep : step s = .next t) : t.Inv := by
  rcases step_cases s t hstep with ⟨-, rfl⟩ | ⟨x, rest, i, -, -, hx⟩ | ⟨x, rest, e, -, -, rfl⟩
  · exact h
  · exact effect_keeps_inv (exec_effect hx) h
  · exact raiseIllegal_keeps_inv (s := { s with inputs := rest }) h (inputIsRead x)

theorem perform_nil (s : State) : perform [] s = .next { s with inputs := [] } := rfl

theorem run_succ_of_step {M : Host.Core} {k : Nat} {s t : M.State} (h : M.step s = .next t) : M.run (k + 1) s = M.run k t := by
  rw [Host.Core.run, h]

/-- A run performs its first operation and goes on from the state after it (R58). -/
theorem perform_cons {x : Input} {l : List Input} {s t : State} (h : step { s with inputs := x :: l } = .next t) :
    perform (x :: l) s = perform l t := by
  obtain rfl : t.inputs = l := step_inputs h
  exact run_succ_of_step (M := Sys2Proof.core) h

end Sys2Proof.Machine
end

section
/-! SUPPORT. The state family: what every step keeps and what each instruction may write (10_state.md R12 to R25). -/

namespace Sys2Proof.Machine

/-- Settles O51: a step idles, raises Illegal, or leaves the effect of one instruction, and each keeps the invariants; TICK
services both comparison words anew and keeps the bounds. -/
theorem stepKeepsTheInvariants : Obligations.StepKeepsTheInvariants :=
  fun _ _ => step_keeps_inv

/-- Settles O42: only WR.NSEED, TICK and RESET write the seed; an LFSR shift keeps it nonzero, and no other word decodes to
WR.NSEED 0. -/
theorem nonzeroSeedStaysNonzero : Obligations.NonzeroSeedStaysNonzero := by
  intro s t hseed hhead hstep
  rcases step_cases s t hstep with ⟨-, rfl⟩ | ⟨x, rest, i, hin, hdec, hx⟩ | ⟨x, rest, e, -, -, rfl⟩
  · exact hseed
  · refine effect_seed_ne_zero (exec_effect hx) ?_ hseed
    rintro rfl
    exact hhead (by rw [hin, List.head?_cons, decodeInput_eq_wrNseed hdec])
  · simpa using hseed

/-- Settles O50: raising Illegal and TICK only set a fault bit, no other instruction but RESET writes one, and RESET is decoded
from its two inputs only. -/
theorem faultBitsAreSticky : Obligations.FaultBitsAreSticky := by
  intro s t hstep hreset hdiscard
  rcases step_cases s t hstep with ⟨-, rfl⟩ | ⟨x, rest, i, hin, hdec, hx⟩ | ⟨x, rest, e, -, -, rfl⟩
  · exact ⟨id, id⟩
  · refine effect_keeps_fault_bits (s := { s with inputs := rest }) (exec_effect hx) ?_
    rintro rfl
    rcases decodeInput_eq_reset hdec with rfl | rfl
    · exact hreset (by rw [hin, List.head?_cons])
    · exact hdiscard (by rw [hin, List.head?_cons])
  · simp

/-- Settles O53, by induction on the operations: the invariants let a step complete and are kept by it. -/
theorem runsNeverStop : Obligations.RunsNeverStop := by
  intro l
  induction l with
  | nil => exact fun s h => ⟨{ s with inputs := [] }, perform_nil s, h, rfl⟩
  | cons x l ih =>
    intro s h
    have hplaced : State.Inv { s with inputs := x :: l } := h
    obtain ⟨-, -, hsample, -⟩ := id hplaced
    obtain ⟨t, hstep⟩ := step_completes { s with inputs := x :: l } hsample
    obtain ⟨u, hrun, hu⟩ := ih t (step_keeps_inv hplaced hstep)
    exact ⟨u, (perform_cons hstep).trans hrun, hu⟩

theorem advanceChannels_with_region_stage (s : State) (r : Region) (g : DmcStage) :
    advanceChannels { s with region := r, stage := g } = { advanceChannels s with region := r, stage := g } := by
  rw [advanceChannels_eq, advanceChannels_eq]

theorem counterStep_with_region_stage (s : State) (r : Region) (g : DmcStage) :
    counterStep { s with region := r, stage := g } = { counterStep s with region := r, stage := g } := by
  rw [counterStep_eq, counterStep_eq]

/-- Settles O55: each stage of TICK commutes with replacing region and staging, and the mix reads neither. -/
theorem tickReadsNeitherRegionNorStaging : Obligations.TickReadsNeitherRegionNorStaging := by
  intro s t r g h
  obtain ⟨left, right, hmix, rfl⟩ := execTick_next s t h
  have hmix' : mix (advanceChannels { s with region := r, stage := g }) = some (left, right) := by
    rw [advanceChannels_with_region_stage]
    exact hmix
  calc exec .tick { s with region := r, stage := g }
    _ = .next (counterStep ((advanceChannels { s with region := r, stage := g }).dacWrite left right)) := execTick_of_mix hmix'
    _ = .next (counterStep { (advanceChannels s).dacWrite left right with region := r, stage := g }) := by
      rw [advanceChannels_with_region_stage]; rfl
    _ = .next { counterStep ((advanceChannels s).dacWrite left right) with region := r, stage := g } := by
      rw [counterStep_with_region_stage]

/-- Settles O57, by the effect of the instruction: each names the fields it writes, and TICK keeps the fields that no tick step
writes. -/
theorem channelFieldsChangeOnlyByTheirWriters : Obligations.ChannelFieldsChangeOnlyByTheirWriters := by
  intro i s t h hi
  cases exec_effect h with
  | reset => exact absurd rfl hi
  | tick l r _ => simp [advanceChannels_eq, counterStep_eq, dmcAfter_dmcStep_stream]
  | wrPduty c _ | wrPvol c _ | wrPdelta c _ => cases c <;> simp [State.pulse]
  | wrTgate g => cases g <;> simp
  | _ => simp

/-- Settles O58, by the effect of the instruction. -/
theorem globalFieldsChangeOnlyByTheirWriters : Obligations.GlobalFieldsChangeOnlyByTheirWriters := by
  intro i s t h hi
  cases exec_effect h with
  | reset => exact absurd rfl hi
  | tick l r _ => simp [advanceChannels_eq, counterStep_eq]
  | _ => simp

/-- Settles O52: the reset state is what RESET leaves of itself. -/
theorem resetMeetsTheInvariants : Obligations.ResetMeetsTheInvariants :=
  reset_inv State.reset reset_sampleMem_wf

end Sys2Proof.Machine
end

section
/-! SUPPORT. The write words of the DMC's staging registers decode to their instructions (30_encoding.md R72 to R75), and the words
that PLAY stands for (R79). -/

namespace Sys2Proof

open Sys2Proof.Machine

/-- A write word of a row that may be written decodes to the row's instruction when its data stays inside the row's mask (R75). -/
theorem decode_writeWord_of_row {a : RegAddr} {e : RegDecode} {mask : Data} {build : Data → Instr} (d : Data)
    (hrow : mapAddr a = some e) (hw : e.write = some (mask, build)) (hmask : d &&& ~~~mask = 0) :
    decode (writeWord a d) = .ok (build d) := by
  simp [decode_writeWord, decodeParts, hrow, hw, hmask]

/-- The bits of the DCFG word, field by field (R73). -/
theorem getLsbD_dcfgWord (g : DmcStage) {i : Nat} (h : i < 32) :
    (dcfgWord g).getLsbD i =
      (!decide (i < 8) && g.seed.getLsbD (i - 8) || decide (i = 7) && g.loop || g.rate.getLsbD i) := by
  have hloop : (flagAt g.loop 7).getLsbD i = (decide (i = 7) && g.loop) := by
    cases g.loop
    · simp [flagAt]
    · interval_cases i <;> rfl
  have hseed : i - 8 < 32 := by omega
  simp only [dcfgWord, zext32, BitVec.getLsbD_or, BitVec.getLsbD_shiftLeft, BitVec.getLsbD_setWidth, hloop]
  simp [h, hseed]

theorem field_dcfgWord_rate (g : DmcStage) : field (dcfgWord g) 0 4 = g.rate := by
  apply BitVec.eq_of_getLsbD_eq
  intro i hi
  have h8 : i < 8 := by omega
  have h7 : i ≠ 7 := by omega
  rw [field, BitVec.getLsbD_extractLsb', getLsbD_dcfgWord g (by omega)]
  simp [hi, h8, h7]

theorem flag_dcfgWord_loop (g : DmcStage) : flag (dcfgWord g) 7 = g.loop := by
  rw [flag, getLsbD_dcfgWord g (by decide)]
  simp

theorem field_dcfgWord_seed (g : DmcStage) : field (dcfgWord g) 8 7 = g.seed := by
  apply BitVec.eq_of_getLsbD_eq
  intro i hi
  have h7 : 8 + i ≠ 7 := by omega
  rw [field, BitVec.getLsbD_extractLsb', getLsbD_dcfgWord g (by omega), g.rate.getLsbD_of_ge (8 + i) (by omega)]
  simp [hi, h7]

theorem encode_wrDcfg (g : DmcStage) : encode (.wrDcfg g.rate g.loop g.seed) = .command (writeWord 0x16 (dcfgWord g)) := rfl

theorem decodeInput_encode_wrDaddr (v : Data) : decodeInput (encode (.wrDaddr v)) = .ok (.wrDaddr v) :=
  decode_writeWord_of_row v rfl rfl (by simp)

theorem decodeInput_encode_wrDlen (v : BitVec 16) : decodeInput (encode (.wrDlen v)) = .ok (.wrDlen v) := by
  rw [encode, decodeInput, decode_writeWord_of_row _ rfl rfl (setWidth_and_mask v _ (by decide)), field_setWidth v (by decide)]

theorem decodeInput_encode_wrDcfg (g : DmcStage) :
    decodeInput (encode (.wrDcfg g.rate g.loop g.seed)) = .ok (.wrDcfg g.rate g.loop g.seed) := by
  rw [encode_wrDcfg, decodeInput, decode_writeWord_of_row (dcfgWord g) rfl rfl (dcfg_mask g.rate g.loop g.seed),
    field_dcfgWord_rate, flag_dcfgWord_loop, field_dcfgWord_seed]

theorem decodeInput_encode_wrDplay : decodeInput (encode .wrDplay) = .ok .wrDplay :=
  decode_writeWord_of_row (a := 0x17) 0 rfl rfl BitVec.zero_and

end Sys2Proof

namespace Sys2Proof.Machine

/-- With its operands in range, PLAY stands for the four commands that stage a stream and start it (R79). -/
theorem assemble_play (sampleRate : Nat) (g : DmcStage) :
    assemble (expandPseudo sampleRate
      (.play g.addr (g.len.setWidth 32) (g.rate.setWidth 32) (g.seed.setWidth 32) (if g.loop then 1 else 0))) =
      [encode (.wrDaddr g.addr), encode (.wrDlen g.len), encode (.wrDcfg g.rate g.loop g.seed), encode .wrDplay] := by
  obtain ⟨addr, len, rate, loop, seed⟩ := g
  cases loop <;> rfl

end Sys2Proof.Machine
end

section
/-! SUPPORT. The memory family: what a step performs and keeps, what a read returns, and the run of PLAY (20_memory.md R53 to R60). -/

namespace Sys2Proof.Machine

theorem step_of_decodeInput {s : State} {x : Input} {rest : List Input} {i : Instr} (hin : s.inputs = x :: rest)
    (hdec : decodeInput x = .ok i) : step s = exec i { s with inputs := rest } := by
  rw [step_cons s x rest hin, hdec]

/-- Settles O1: the two cases of a step in which it raises no Illegal. -/
theorem stepRunsTheDecodedOperation : Obligations.StepRunsTheDecodedOperation :=
  ⟨fun _ _ _ _ => step_of_decodeInput, step_idle⟩

theorem effect_keeps_cfg_and_sampleMem {i : Instr} {s t : State} (e : Effect s i t) :
    t.cfg = s.cfg ∧ t.sampleMem = s.sampleMem := by
  cases e with
  | wrPduty | wrPvol | wrPdelta => simp
  | tick l r _ => simp [counterStep_eq, advanceChannels_eq]
  | _ => exact ⟨rfl, rfl⟩

/-- Settles O49: idling, raising Illegal and the effect of every instruction leave both as they are; RESET puts them back into
the reset state. -/
theorem stepsKeepConfigurationAndMemory : Obligations.StepsKeepConfigurationAndMemory := by
  intro s t hstep
  rcases step_cases s t hstep with ⟨-, rfl⟩ | ⟨x, rest, i, -, -, hx⟩ | ⟨x, rest, e, -, -, rfl⟩
  · exact ⟨rfl, rfl⟩
  · exact effect_keeps_cfg_and_sampleMem (s := { s with inputs := rest }) (exec_effect hx)
  · simp

/-- A read completes in every state, and its whole effect is the data it returns (R56). -/
theorem exec_read {i : Instr} (h : isRead i = true) (s : State) : ∃ v, exec i s = .next (s.returnRead v) := by
  cases i with
  | wrPduty | wrPvol | wrPdelta | wrTgate | wrTdelta | wrNvol | wrNmode | wrNseed | wrNdelta | wrNrate | wrDaddr | wrDlen
  | wrDcfg | wrDplay | wrDkill | wrEnable | wrRegion | tick | reset => simp [isRead, encode, inputIsRead] at h
  | _ => exact ⟨_, rfl⟩

/-- Settles O54: returning a read adds its data to what the ports have shown and writes no other field. -/
theorem readsOnlyReturnData : Obligations.ReadsOnlyReturnData :=
  fun _ h s => exec_read h s

/-- A run whose first operation decodes to an instruction performs it and goes on from the state it leaves (R58). -/
theorem perform_cons_of_exec {x : Input} {i : Instr} {l : List Input} {s t : State} (hdec : decodeInput x = .ok i)
    (hx : exec i { s with inputs := l } = .next t) : perform (x :: l) s = perform l t :=
  perform_cons ((step_of_decodeInput rfl hdec).trans hx)

/-- The exact state that staging the stream g and starting it leaves, whatever was staged or playing before (R183 to R189). -/
theorem perform_stage_and_play (g : DmcStage) (s : State) :
    perform [encode (.wrDaddr g.addr), encode (.wrDlen g.len), encode (.wrDcfg g.rate g.loop g.seed), encode .wrDplay] s =
      .next { s with
        stage := g
        dmc := dmcReset s.cfg.val (dmcLoad s.cfg.val s.region g s.dmc)
        inputs := [] } :=
  calc
    _ = perform [encode (.wrDlen g.len), encode (.wrDcfg g.rate g.loop g.seed), encode .wrDplay] _ :=
      perform_cons_of_exec (decodeInput_encode_wrDaddr g.addr) rfl
    _ = perform [encode (.wrDcfg g.rate g.loop g.seed), encode .wrDplay] _ :=
      perform_cons_of_exec (decodeInput_encode_wrDlen g.len) rfl
    _ = perform [encode .wrDplay] _ := perform_cons_of_exec (decodeInput_encode_wrDcfg g) rfl
    _ = perform [] _ := perform_cons_of_exec decodeInput_encode_wrDplay rfl
    _ = _ := perform_nil _

/-- Settles O60: PLAY stages the stream and starts it, which loads the DMC from staging at position 0 and writes no other channel. -/
theorem playStartsTheStream : Obligations.PlayStartsTheStream := by
  intro sampleRate addr len rate seed loop s
  let g : DmcStage := { addr, len, rate, loop, seed }
  have hrun := (congrArg (perform · s) (assemble_play sampleRate g)).trans (perform_stage_and_play g s)
  exact ⟨_, hrun, rfl, rfl, rfl, rfl, rfl, rfl, dmcReset_delta s.cfg.val (dmcLoad s.cfg.val s.region g s.dmc),
    rfl, rfl, rfl, rfl, rfl⟩

end Sys2Proof.Machine
end

section
/-! SUPPORT. Each row of the register map read both ways (30_encoding.md R71 to R77): the word an instruction is encoded to decodes to
it, and an instruction that a word decodes to is encoded to that word. -/

namespace Sys2Proof

open Sys2Proof.Machine

/-- A read word of a row that may be read decodes to the row's instruction, whatever its data (R71, R75). -/
theorem decode_readWord_of_row {a : RegAddr} {e : RegDecode} {i : Instr} (d : Data)
    (hrow : mapAddr a = some e) (hr : e.read = some i) : decode (readWord a d) = .ok i := by
  simp [decode_readWord, decodeParts, hrow, hr]

/-- A row whose instruction takes the low w bits, all inside the row's mask, reads back a zero-extended operand (R72, R74). -/
theorem decode_writeWord_setWidth {w : Nat} {a : RegAddr} {e : RegDecode} {mask : Data} {build : BitVec w → Instr} (v : BitVec w)
    (hrow : mapAddr a = some e) (hw : e.write = some (mask, fun d => build (field d 0 w))) (hle : w ≤ 32)
    (hmask : ∀ i, i < w → mask.getLsbD i = true) : decode (writeWord a (v.setWidth 32)) = .ok (build v) := by
  rw [decode_writeWord_of_row _ hrow hw (setWidth_and_mask v mask hmask), field_setWidth v hle]

theorem decodeInput_encode (i : Instr) : decodeInput (encode i) = .ok i := by
  cases i with
  | wrPduty c v | wrPvol c v | wrPdelta c v =>
    cases c <;> exact decode_writeWord_setWidth v rfl rfl (by decide) (by decide)
  | wrTdelta v | wrNvol v | wrNseed v | wrNrate v | wrDlen v | wrEnable v =>
    exact decode_writeWord_setWidth v rfl rfl (by decide) (by decide)
  | wrNdelta v | wrDaddr v => exact decode_writeWord_of_row v rfl rfl (by simp)
  | wrTgate g => rw [encode, decodeInput, decode_writeWord_of_row _ rfl rfl (flagAt_zero_mask g), flag_flagAt_zero]
  | wrNmode b => rw [encode, decodeInput, decode_writeWord_of_row _ rfl rfl (flagAt_seven_mask b), flag_flagAt_seven]
  | wrRegion r =>
    rw [encode, decodeInput, decode_writeWord_of_row _ rfl rfl (flagAt_zero_mask _), flag_flagAt_zero, regionOfBit_bitOfRegion]
  | wrDcfg rate loop seed => exact decodeInput_encode_wrDcfg ⟨0, 0, rate, loop, seed⟩
  | wrDplay => exact decodeInput_encode_wrDplay
  | wrDkill => exact decode_writeWord_of_row (a := 0x18) 0 rfl rfl BitVec.zero_and
  | rdPduty c | rdPvol c | rdPdelta c | rdPacc c => cases c <;> exact decode_readWord_of_row 0 rfl rfl
  | tick | reset => rfl
  | _ => exact decode_readWord_of_row 0 rfl rfl

/-- Settles O2, by the instruction: its word names its row, and the row's slices give the operands back. -/
theorem encodedInstructionsDecodeBack : Obligations.EncodedInstructionsDecodeBack :=
  decodeInput_encode

/-! ### From the word to the instruction and back -/

theorem getLsbD_eq_false_of_masked {d mask : Data} (h : d &&& ~~~mask = 0) {i : Nat} (hi : i < 32)
    (hm : mask.getLsbD i = false) : d.getLsbD i = false := by
  have hbit := congrArg (·.getLsbD i) h
  simp only [BitVec.getLsbD_and, BitVec.getLsbD_not, hm] at hbit
  simpa [hi] using hbit

theorem getLsbD_flagAt (b : Bool) (k : Nat) {i : Nat} (hi : i < 32) : (flagAt b k).getLsbD i = (decide (i = k) && b) := by
  rcases Nat.lt_trichotomy i k with h | rfl | h
  · simp [flagAt, h, h.ne]
  · simp [flagAt, hi]
  · have hpos : i - k ≠ 0 := by omega
    simp [flagAt, h.ne', hpos]

/-- A data word inside the mask of bit k alone is that bit. -/
theorem flagAt_flag_of_masked {d mask : Data} {k : Nat} (h : d &&& ~~~mask = 0)
    (hm : ∀ i, i < 32 → i ≠ k → mask.getLsbD i = false) : flagAt (flag d k) k = d := by
  apply BitVec.eq_of_getLsbD_eq
  intro i hi
  rw [getLsbD_flagAt _ _ hi]
  by_cases hk : i = k
  · simp [hk, flag]
  · simp [hk, getLsbD_eq_false_of_masked h hi (hm i hi hk)]

/-- The DCFG word with the slices of d as its fields is d when d has no bit outside the mask (R73, R74). -/
theorem dcfgWord_slices_of_masked {d : Data} (h : d &&& ~~~0x00007F8F = 0) (g : DmcStage) :
    dcfgWord { g with rate := field d 0 4, loop := flag d 7, seed := field d 8 7 } = d := by
  have hmask : ∀ i, i < 32 → ¬(i < 4 ∨ i = 7 ∨ 8 ≤ i ∧ i < 15) → (0x00007F8F : Data).getLsbD i = false := by decide
  apply BitVec.eq_of_getLsbD_eq
  intro i hi
  rw [getLsbD_dcfgWord _ hi]
  by_cases hin : i < 4 ∨ i = 7 ∨ 8 ≤ i ∧ i < 15
  · rcases hin with h4 | rfl | ⟨h8, h15⟩
    · have h8 : i < 8 := by omega
      have h7 : i ≠ 7 := by omega
      simp [field, h4, h7, h8]
    · simp [field, flag]
    · have h4 : ¬i < 4 := by omega
      have h7 : i ≠ 7 := by omega
      have hseed : i - 8 < 7 := by omega
      simp [field, h4, h7, hseed, h8, Nat.add_sub_cancel' h8]
  · have h4 : ¬i < 4 := by omega
    have h7 : i ≠ 7 := by omega
    have hseed : 8 ≤ i → 7 ≤ i - 8 := by omega
    rw [getLsbD_eq_false_of_masked h hi (hmask i hi hin)]
    simpa [field, h4, h7] using fun h8 hlt => absurd hlt (Nat.not_lt.mpr (hseed h8))

theorem eq_ofNat_of_toNat_eq {a : RegAddr} {n : Nat} (h : a.toNat = n) : a = BitVec.ofNat 8 n := by
  rw [← h, BitVec.ofNat_toNat, BitVec.setWidth_eq]

/-- What a row builds from a data word inside its mask is encoded to the write of that data word at the row's address. -/
theorem encode_build_of_row {a : RegAddr} {e : RegDecode} {mask : Data} {build : Data → Instr} {d : Data}
    (hrow : mapAddr a = some e) (hw : e.write = some (mask, build)) (hd : d &&& ~~~mask = 0) :
    encode (build d) = .command (writeWord a d) := by
  unfold mapAddr mapRow at hrow
  split at hrow
  all_goals cases hrow <;> cases hw
  all_goals
    obtain rfl := eq_ofNat_of_toNat_eq ‹_›
    refine congrArg (fun x => Input.command (writeWord _ x)) (?_ : _ = d)
  -- The rows whose data is more, or less, than one field at bit 0.
  case h_9 | h_14 => -- TGATE, NMODE
    exact flagAt_flag_of_masked hd (by decide)
  case h_16 | h_21 => -- NDELTA, DADDR
    rfl
  case h_23 => -- DCFG
    exact dcfgWord_slices_of_masked hd ⟨0, 0, 0, false, 0⟩
  case h_24 | h_25 => -- DPLAY, DKILL
    exact hd.symm.trans BitVec.and_allOnes
  case h_37 => -- REGION
    rw [bitOfRegion_regionOfBit, flagAt_flag_of_masked hd (by decide)]
  all_goals exact setWidth_field_of_masked d _ hd (by decide)

theorem encode_read_of_row {a : RegAddr} {e : RegDecode} {i : Instr} (hrow : mapAddr a = some e) (hr : e.read = some i) :
    encode i = .command (readWord a 0) := by
  unfold mapAddr mapRow at hrow
  split at hrow
  all_goals cases hrow <;> cases hr
  all_goals
    obtain rfl := eq_ofNat_of_toNat_eq ‹_›
    rfl

/-- Settles O3: a word that decodes comes from one row, whose instruction carries the row's address and all of the masked data. -/
theorem decodedWordsEncodeBack : Obligations.DecodedWordsEncodeBack := by
  intro cw i h
  obtain ⟨e, hrow, ⟨hcw, mask, build, hw, hd, rfl⟩ | ⟨hcw, hr⟩⟩ := decode_ok h
  · rw [encode_build_of_row hrow hw hd, writeWord_cwAddr_cwData cw hcw, if_pos hcw]
  · simp [encode_read_of_row hrow hr, hcw]

end Sys2Proof
end

section
/-! SUPPORT. Which words are legal: the decoder's map, the register map and the opcode table agree (30_encoding.md R73 to R77,
60_exceptions.md R301). -/

namespace Sys2Proof

open Sys2Proof.Machine

/-! ### The decoder's map and the register map -/

/-- The access column of a decoder row (R73). -/
def RegDecode.access (e : RegDecode) : Access :=
  if e.write.isNone then .ro else if e.read.isNone then .wo else .rw

/-- The write mask of a decoder row, 0 for one that may not be written (R74). -/
def RegDecode.mask (e : RegDecode) : Data :=
  (e.write.map Prod.fst).getD 0

theorem RegDecode.access_eq_ro_iff (e : RegDecode) : e.access = .ro ↔ e.write = none := by
  cases hw : e.write <;> cases hr : e.read <;> simp [RegDecode.access, hw, hr]

/-- The map of R75 has the rows, accesses and masks that R73 and R74 tabulate. -/
theorem regMap_find?_eq (a : RegAddr) :
    regMap.find? (fun r => r.addr == a) = (mapAddr a).map fun e => ⟨a, e.access, e.mask⟩ := by
  decide +kernel +revert

/-- Every row may be written or read (R73). -/
theorem mapAddr_write_or_read (a : RegAddr) : ∀ e ∈ mapAddr a, e.write.isSome ∨ e.read.isSome := by
  decide +kernel +revert

theorem access_eq_wo_iff_of_row {a : RegAddr} {e : RegDecode} (hrow : mapAddr a = some e) :
    e.access = .wo ↔ e.read = none := by
  rcases mapAddr_write_or_read a e hrow with hw | hr
  · simp [RegDecode.access, Option.isSome_iff_ne_none.mp hw]
  · by_cases hw : e.write = none <;> simp [RegDecode.access, hw, Option.isSome_iff_ne_none.mp hr]

/-- Settles O4: each cause of R75 is read off the decoder's row, which is the register map's. -/
theorem decodeNamesTheFirstIllegalCause : Obligations.DecodeNamesTheFirstIllegalCause := by
  intro cw
  rw [regMap_find?_eq]
  cases hrow : mapAddr (cwAddr cw) with
  | none => simp [decode, decodeParts, hrow]
  | some e =>
    simp only [Option.map_some, e.access_eq_ro_iff, access_eq_wo_iff_of_row hrow]
    cases hcw : cwWrite cw with
    | true =>
      rcases hw : e.write with _ | ⟨mask, build⟩
      · simp [decode, decodeParts, hrow, hcw, hw]
      · by_cases hmask : cwData cw &&& ~~~mask = 0#32
        · simp [decode, decodeParts, RegDecode.mask, hrow, hcw, hw, hmask]
        · simp [decode, decodeParts, RegDecode.mask, hrow, hcw, hw, hmask]
    | false => cases hr : e.read <;> simp [decode, decodeParts, hrow, hcw, hr]

/-! ### The opcode table -/

theorem commandWord_ext_iff {x y : CommandWord} :
    x = y ↔ cwWrite x = cwWrite y ∧ cwAddr x = cwAddr y ∧ cwData x = cwData y := by
  constructor
  · rintro rfl
    exact ⟨rfl, rfl, rfl⟩
  · rintro ⟨hwrite, haddr, hdata⟩
    apply BitVec.eq_of_getLsbD_eq
    intro i hi
    by_cases hd : i < 32
    · simpa [cwData, hd] using congrArg (·.getLsbD i) hdata
    · by_cases ha : i < 40
      · have ha' : i - 32 < 8 := by omega
        have hs : 32 + (i - 32) = i := by omega
        simpa [cwAddr, ha', hs] using congrArg (·.getLsbD (i - 32)) haddr
      · obtain rfl : i = 40 := by omega
        exact hwrite

theorem and_eq_iff_parts (cw mask m : CommandWord) :
    cw &&& mask = m ↔
      (cwWrite cw && cwWrite mask) = cwWrite m ∧ cwAddr cw &&& cwAddr mask = cwAddr m ∧ cwData cw &&& cwData mask = cwData m := by
  rw [commandWord_ext_iff]
  simp [cwWrite, cwAddr, cwData, BitVec.extractLsb'_and]

/-- The data masks of the opcode table's rows for the direction we and the address a. -/
def opcodeDataMasks (we : Bool) (a : RegAddr) : List Data :=
  (opcodeTable.filter fun row => we == cwWrite row.1 && a &&& cwAddr row.2 == cwAddr row.1).map fun row => cwData row.2

/-- Every row of the opcode table fixes WE, and fixes no data bit to 1. -/
theorem opcodeTable_write_data : ∀ row ∈ opcodeTable, cwWrite row.2 = true ∧ cwData row.1 = 0 := by
  have h : opcodeTable.all (fun row => cwWrite row.2 && cwData row.1 == 0) = true := by decide +kernel
  simpa using h

theorem matches_opcodeTable_iff (cw : CommandWord) :
    (∃ row ∈ opcodeTable, cw &&& row.2 = row.1) ↔
      ∃ m ∈ opcodeDataMasks (cwWrite cw) (cwAddr cw), cwData cw &&& m = 0 := by
  have hrow : ∀ row ∈ opcodeTable, (cw &&& row.2 = row.1 ↔
      cwWrite cw = cwWrite row.1 ∧ cwAddr cw &&& cwAddr row.2 = cwAddr row.1 ∧ cwData cw &&& cwData row.2 = 0) := by
    intro row hmem
    obtain ⟨hw, hd⟩ := opcodeTable_write_data row hmem
    rw [and_eq_iff_parts, hw, hd, Bool.and_true]
  simp only [opcodeDataMasks, List.mem_map, List.mem_filter]
  constructor
  · rintro ⟨row, hmem, hmatch⟩
    obtain ⟨hw, ha, hd⟩ := (hrow row hmem).mp hmatch
    exact ⟨_, ⟨row, ⟨hmem, by simp [hw, ha]⟩, rfl⟩, hd⟩
  · rintro ⟨_, ⟨row, ⟨hmem, hfix⟩, rfl⟩, hd⟩
    obtain ⟨hw, ha⟩ : cwWrite cw = cwWrite row.1 ∧ cwAddr cw &&& cwAddr row.2 = cwAddr row.1 := by simpa using hfix
    exact ⟨row, hmem, (hrow row hmem).mpr ⟨hw, ha, hd⟩⟩

/-- The data bits that a legal word of direction we at address a must leave 0, by the decoder's row; none when no word is legal (R77). -/
def legalDataMasks (we : Bool) (a : RegAddr) : List Data :=
  match mapAddr a with
  | none => []
  | some e => if we then e.write.toList.map fun w => ~~~w.1 else e.read.toList.map fun _ => 0

theorem wordLegal_iff_legalDataMasks (cw : CommandWord) :
    wordLegal cw = true ↔ ∃ m ∈ legalDataMasks (cwWrite cw) (cwAddr cw), cwData cw &&& m = 0 := by
  unfold wordLegal legalDataMasks
  rw [regMap_find?_eq]
  cases hrow : mapAddr (cwAddr cw) with
  | none => simp
  | some e =>
    cases cwWrite cw with
    | true => cases hw : e.write <;> simp [e.access_eq_ro_iff, RegDecode.mask, hw]
    | false => cases hr : e.read <;> simp [access_eq_wo_iff_of_row hrow, hr]

theorem opcodeDataMasks_eq_legalDataMasks (we : Bool) (a : RegAddr) : opcodeDataMasks we a = legalDataMasks we a := by
  decide +kernel +revert

theorem wordLegal_iff_matches_opcodeTable (cw : CommandWord) :
    wordLegal cw = true ↔ ∃ row ∈ opcodeTable, cw &&& row.2 = row.1 := by
  rw [wordLegal_iff_legalDataMasks, matches_opcodeTable_iff, opcodeDataMasks_eq_legalDataMasks]

theorem wordLegal_of_decode_ok {cw : CommandWord} {i : Instr} (h : decode cw = .ok i) : wordLegal cw = true := by
  rw [wordLegal_iff_legalDataMasks]
  obtain ⟨e, hrow, ⟨hcw, mask, build, hw, hmask, -⟩ | ⟨hcw, hr⟩⟩ := decode_ok h
  · exact ⟨~~~mask, by simp [legalDataMasks, hrow, hcw, hw], hmask⟩
  · exact ⟨0, by simp [legalDataMasks, hrow, hcw, hr], BitVec.and_zero⟩

theorem exists_decode_error_of_not_wordLegal {cw : CommandWord} (h : wordLegal cw = false) : ∃ e, decode cw = .error e := by
  cases hdec : decode cw with
  | error e => exact ⟨e, rfl⟩
  | ok i => simp [wordLegal_of_decode_ok hdec] at h

theorem step_placeInput_of_error {s : State} {x : Input} {e : Illegal} (hdec : decodeInput x = .error e) :
    step (placeInput s x) = .next (s.raiseIllegal (inputIsRead x)) := by
  rw [step_cons (placeInput s x) x s.inputs rfl, hdec]
  rfl

/-- Settles O5: the map and the table fix the same data bits at each direction and address, and a word that is not legal decodes to
a cause, which raises Illegal. -/
theorem illegalWordsOnlySetIll : Obligations.IllegalWordsOnlySetIll := by
  refine ⟨wordLegal_iff_matches_opcodeTable, fun cw s h => ?_⟩
  obtain ⟨e, hdec⟩ := exists_decode_error_of_not_wordLegal h
  rw [step_placeInput_of_error (x := .command cw) hdec, inputIsRead]
  cases cwWrite cw <;> rfl

/-- Settles O6, by running through the pairs of the 51 rows. -/
theorem opcodeRowsAreDisjoint : Obligations.OpcodeRowsAreDisjoint := by
  unfold Obligations.OpcodeRowsAreDisjoint
  decide +kernel

/-- Settles O7: six of the words are what encode gives for the instruction they stand for, and a read ignores its data. -/
theorem writtenOutWordsDecode : Obligations.WrittenOutWordsDecode :=
  ⟨decodeInput_encode (.wrPduty .pulse2 0xC0), decodeInput_encode (.wrTgate true), decodeInput_encode (.wrNmode true),
    decodeInput_encode (.wrDcfg 15 true 64), decodeInput_encode (.wrEnable 3), decodeInput_encode (.wrRegion .pal),
    decode_readWord_of_row (a := 0x2E) 0x12345678 rfl rfl⟩

end Sys2Proof
end

section
/-! SUPPORT. The write commands by word: a row of the decoder's map gives the effect and the illegal forms of its words (30_encoding.md
R73 to R75, 60_exceptions.md R301). -/

namespace Sys2Proof.Machine

theorem step_placeInput_of_ok {s : State} {x : Input} {i : Instr} (hdec : decodeInput x = .ok i) :
    step (placeInput s x) = exec i s :=
  step_of_decodeInput (s := placeInput s x) rfl hdec

/-- A write word of a row that may be written does what the row's instruction does when the data stays inside the row's mask, and
only sets STATUS.ILL when it does not (R75, R301). -/
theorem writeDoes_of_row {a : RegAddr} {e : RegDecode} {mask : Data} {build : Data → Instr} {f : Data → State → State}
    (hrow : mapAddr a = some e) (hw : e.write = some (mask, build)) (hexec : ∀ d s, exec (build d) s = .next (f d s)) :
    WriteDoes a mask f := by
  intro d s
  split
  · next hmask =>
    exact (step_placeInput_of_ok (x := .command (writeWord a d)) (decode_writeWord_of_row d hrow hw hmask)).trans (hexec d s)
  · next hmask =>
    have hdec : decode (writeWord a d) = .error (.reservedBits a d) := by
      simp only [decode_writeWord, decodeParts, hrow, hw, hmask, if_true, if_false]
    rw [step_placeInput_of_error (x := .command (writeWord a d)) hdec, inputIsRead, cwWrite_writeWord]
    rfl

theorem readIsIllegal_of_row {a : RegAddr} {e : RegDecode} (hrow : mapAddr a = some e) (hr : e.read = none) :
    ReadIsIllegal a := by
  intro d s
  have hdec : decode (readWord a d) = .error (.readOfWriteOnly a) := by
    simp [decode_readWord, decodeParts, hrow, hr]
  rw [step_placeInput_of_error (x := .command (readWord a d)) hdec, inputIsRead, cwWrite_readWord]
  rfl

/-- Settles O18, row by row of the pulse channels. -/
theorem pulseWriteCommands : Obligations.PulseWriteCommands := by
  refine ⟨?_, ?_, ?_, ?_, ?_, ?_⟩
  all_goals exact writeDoes_of_row rfl rfl fun _ _ => rfl

/-- Settles O21, row by row of the noise channel; NRATE has no read. -/
theorem noiseWriteCommands : Obligations.NoiseWriteCommands := by
  refine ⟨?_, ?_, ?_, ?_, ?_, readIsIllegal_of_row rfl rfl⟩
  all_goals exact writeDoes_of_row rfl rfl fun _ _ => rfl

/-- DmcReset field by field: DMC_RESET_CLEARS_CLOCK decides whether clk and cmp are kept (R181). -/
theorem dmcReset_eq (c : Config) (d : Dmc) :
    dmcReset c d =
      { d with
        offset := 0
        bitOffset := 0
        clock :=
          { clk := if c.dmcResetClearsClock then 0 else d.clock.clk
            cmp := if c.dmcResetClearsClock then 0 else d.clock.cmp
            delta := d.clock.delta } } := by
  cases h : c.dmcResetClearsClock <;> simp [dmcReset, h]

/-- Settles O23: the staging registers row by row; DPLAY and DKILL also restart the stream as DmcReset says, and have no read. -/
theorem dmcWriteCommands : Obligations.DmcWriteCommands := by
  refine ⟨?_, ?_, ?_, ?_, ?_, readIsIllegal_of_row rfl rfl, readIsIllegal_of_row rfl rfl⟩
  · exact writeDoes_of_row rfl rfl fun _ _ => rfl
  · exact writeDoes_of_row rfl rfl fun _ _ => rfl
  · exact writeDoes_of_row rfl rfl fun _ _ => rfl
  · exact writeDoes_of_row rfl rfl fun _ s => by rw [exec, execWrDplay, dmcReset_eq]; rfl
  · exact writeDoes_of_row rfl rfl fun _ s => by rw [exec, execWrDkill, dmcStop, dmcReset_eq]; rfl

end Sys2Proof.Machine
end

section
/-! SUPPORT. The phase and clock family: what n TICKs do to the accumulators, when a tick is an effective clock of a bit clock, and
what an idle tick leaves of the DMC (40_phase_clock.md R100 to R104, 41_pulse.md R110, R119, 44_dmc.md R182). -/

namespace Sys2Proof.Machine

/-- What a TICK that answers a next state leaves in the channels, in STATUS and in the configuration (R240). -/
theorem execTick_channels {s t : State} (h : execTick s = .next t) :
    t.pulse1 = pulseStep s.pulse1 ∧ t.pulse2 = pulseStep s.pulse2 ∧ t.tri = triStep s.cfg.val s.tri ∧
    t.noise = noiseStep s.noise ∧ t.dmc = dmcAfter s.cfg.val (dmcStep s.cfg.val s.sampleMem s.dmc) ∧
    t.status = { ill := s.status.ill, dmcf := s.status.dmcf || (dmcStep s.cfg.val s.sampleMem s.dmc).2 } ∧
    t.cfg = s.cfg := by
  obtain ⟨l, r, -, rfl⟩ := execTick_next s t h
  rw [counterStep_eq, advanceChannels_eq]
  exact ⟨rfl, rfl, rfl, rfl, rfl, rfl, rfl⟩

/-! ### The idle tick of the DMC -/

theorem dmcStep_of_idle (c : Config) (m : Memory) {d : Dmc} (h : compareWord (d.clock.clk + d.clock.delta) = d.clock.cmp) :
    dmcStep c m d = ({ d with clock := { d.clock with clk := d.clock.clk + d.clock.delta } }, false) := by
  rw [dmcStep_eq, if_pos h, bitClockStep_fst, h]

theorem execTick_idle_dmc {s t : State} (h : execTick s = .next t)
    (hidle : compareWord (s.dmc.clock.clk + s.dmc.clock.delta) = s.dmc.clock.cmp) :
    t.dmc = { s.dmc with clock := { s.dmc.clock with clk := s.dmc.clock.clk + s.dmc.clock.delta } } ∧ t.status = s.status := by
  obtain ⟨-, -, -, -, hdmc, hstatus, -⟩ := execTick_channels h
  rw [dmcStep_of_idle _ _ hidle] at hdmc hstatus
  exact ⟨hdmc, by rw [hstatus, Bool.or_false]⟩

/-- Settles O31: an idle tick has no effective clock to perform; with increment 0 a serviced comparison word makes the tick idle,
and the clock advances by 0. -/
theorem tickLeavesAnIdleDmc : Obligations.TickLeavesAnIdleDmc := by
  intro s t h
  refine ⟨execTick_idle_dmc h, fun hdelta hserviced => ?_⟩
  have hclk : s.dmc.clock.clk + s.dmc.clock.delta = s.dmc.clock.clk := by simp [hdelta]
  have hidle : compareWord (s.dmc.clock.clk + s.dmc.clock.delta) = s.dmc.clock.cmp := by rw [hclk, hserviced]
  simpa only [hclk] using execTick_idle_dmc h hidle

/-! ### Runs of TICKs -/

/-- A run of n TICKs completes and steps each pulse channel and the triangle n times (R78, R240). -/
theorem perform_ticks (n : Nat) (s : State) (h : s.tri.sample.toNat ≤ 15) :
    ∃ t, perform (ticks n) s = .next t ∧ t.pulse1 = pulseStep^[n] s.pulse1 ∧ t.pulse2 = pulseStep^[n] s.pulse2 ∧
      t.tri = (triStep s.cfg.val)^[n] s.tri := by
  induction n generalizing s with
  | zero => exact ⟨{ s with inputs := [] }, perform_nil s, rfl, rfl, rfl⟩
  | succ n ih =>
    obtain ⟨t, htick⟩ := execTick_completes { s with inputs := ticks n } h
    obtain ⟨hp1, hp2, htri, -, -, -, hcfg⟩ := execTick_channels htick
    have hsample : t.tri.sample.toNat ≤ 15 := by
      rw [htri]
      exact triStep_sample_le s.cfg s.tri h
    obtain ⟨u, hrun, hu1, hu2, hutri⟩ := ih t hsample
    have hfirst : perform (ticks (n + 1)) s = perform (ticks n) t := perform_cons_of_exec (x := .tick) (i := .tick) rfl htick
    rw [hp1] at hu1
    rw [hp2] at hu2
    rw [hcfg, htri] at hutri
    exact ⟨u, hfirst.trans hrun, hu1, hu2, hutri⟩

theorem pulseStep_acc_toNat (p : Pulse) : (pulseStep p).acc.toNat = (p.acc.toNat + p.delta.toNat) % 2 ^ 16 :=
  BitVec.toNat_add p.acc p.delta

/-- n pulse steps add n increments to the accumulator, modulo 2^16 (R119(a)). -/
theorem iterate_pulseStep_acc_toNat (n : Nat) (p : Pulse) :
    (pulseStep^[n] p).acc.toNat = (p.acc.toNat + n * p.delta.toNat) % 2 ^ 16 := by
  induction n generalizing p with
  | zero => simpa using (Nat.mod_eq_of_lt p.acc.isLt).symm
  | succ n ih =>
    calc (pulseStep^[n + 1] p).acc.toNat
      _ = ((p.acc.toNat + p.delta.toNat) % 2 ^ 16 + n * p.delta.toNat) % 2 ^ 16 := by
        rw [Function.iterate_succ_apply, ih, pulseStep_acc_toNat, pulseStep_delta]
      _ = (p.acc.toNat + (n + 1) * p.delta.toNat) % 2 ^ 16 := by
        rw [Nat.mod_add_mod]
        congr 1
        ring

/-- Settles O38: the run steps each pulse channel n times. -/
theorem pulsePhaseAfterTicks : Obligations.PulsePhaseAfterTicks := by
  intro n s h
  obtain ⟨t, hrun, hp1, hp2, -⟩ := perform_ticks n s h
  exact ⟨t, hrun, by rw [hp1, iterate_pulseStep_acc_toNat], by rw [hp2, iterate_pulseStep_acc_toNat]⟩

/-! ### Effective clocks -/

theorem compareWord_toNat (clk : BitVec 32) : (compareWord clk).toNat = clk.toNat / 2 ^ 16 := by
  rw [compareWord, BitVec.extractLsb'_toNat, Nat.shiftRight_eq_div_pow]
  have := clk.isLt
  omega

/-- With an increment below 2^16, a tick of a serviced bit clock is an effective clock exactly when the low half carries (R102). -/
theorem bitClockStep_snd_iff_carry {k : BitClock} (hk : k.Serviced) (hdelta : k.delta.toNat < 2 ^ 16) :
    (bitClockStep k).2 = true ↔ 2 ^ 16 ≤ k.clk.toNat % 2 ^ 16 + k.delta.toNat := by
  have hclk := k.clk.isLt
  rw [bitClockStep_snd, decide_eq_true_iff, hk, ne_eq, ← BitVec.toNat_inj, compareWord_toNat, compareWord_toNat, BitVec.toNat_add]
  omega

theorem bitClockStep_low_half (k : BitClock) :
    (bitClockStep k).1.clk.toNat % 2 ^ 16 = (k.clk.toNat % 2 ^ 16 + k.delta.toNat) % 2 ^ 16 := by
  rw [bitClockStep_fst, BitVec.toNat_add]
  omega

/-- The count law for every increment below 2^16, by induction on the ticks: each adds the increment to the low half, and one carry
out of it is one effective clock. -/
theorem effectiveClocks_of_serviced (n : Nat) {k : BitClock} (hk : k.Serviced) (hdelta : k.delta.toNat < 2 ^ 16) :
    effectiveClocks n k = (k.clk.toNat % 2 ^ 16 + n * k.delta.toNat) / 2 ^ 16 := by
  induction n generalizing k with
  | zero =>
    rw [effectiveClocks]
    omega
  | succ n ih =>
    have hrest := ih (bitClockStep_serviced k) (by rwa [bitClockStep_delta])
    rw [bitClockStep_low_half, bitClockStep_delta] at hrest
    simp only [effectiveClocks, hrest, bitClockStep_snd_iff_carry hk hdelta, Nat.succ_mul]
    split <;> omega

/-- Settles O45: the count law holds for increment 0 as well. -/
theorem effectiveClocksFollowTheRate : Obligations.EffectiveClocksFollowTheRate :=
  fun n _ hk _ hdelta => effectiveClocks_of_serviced n hk hdelta

end Sys2Proof.Machine
end

section
/-! SUPPORT. The pulse family: the pulse commands, the pulse channels' step and output, and the mix that a TICK writes to the DAC
(41_pulse.md R110 to R118, 45_mixer.md R220 to R229). -/

namespace Sys2Proof.Machine

/-! ### The commands -/

/-- Settles O8, by running the six writes. -/
theorem pulseWriteResults : Obligations.PulseWriteResults :=
  fun _ => ⟨fun _ => rfl, fun _ => rfl, fun _ => rfl, fun _ => rfl, fun _ => rfl, fun _ => rfl⟩

/-- Settles O9, by running the eight reads. -/
theorem pulseReadResults : Obligations.PulseReadResults :=
  fun _ => ⟨rfl, rfl, rfl, rfl, rfl, rfl, rfl, rfl⟩

/-- A read word of a row that may be read does what the row's instruction does, whatever its data bits (R71, R75). -/
theorem readReturns_of_row {a : RegAddr} {e : RegDecode} {i : Instr} {v : State → Data} (hrow : mapAddr a = some e)
    (hr : e.read = some i) (hexec : ∀ s, exec i s = .next (s.returnRead (v s))) : ReadReturns a v :=
  fun d s => (step_placeInput_of_ok (x := .command (readWord a d)) (decode_readWord_of_row d hrow hr)).trans (hexec s)

theorem writeIsIllegal_of_row {a : RegAddr} {e : RegDecode} (hrow : mapAddr a = some e) (hw : e.write = none) :
    WriteIsIllegal a := by
  intro d s
  have hdec : decode (writeWord a d) = .error (.writeToReadOnly a) := by
    simp [decode_writeWord, decodeParts, hrow, hw]
  rw [step_placeInput_of_error (x := .command (writeWord a d)) hdec, inputIsRead, cwWrite_writeWord]
  rfl

/-- Settles O19, row by row of the pulse channels; PACC has no write. -/
theorem pulseReadCommands : Obligations.PulseReadCommands := by
  refine ⟨?_, ?_, ?_, ?_, ?_, ?_, ?_, ?_, writeIsIllegal_of_row rfl rfl, writeIsIllegal_of_row rfl rfl⟩
  all_goals exact readReturns_of_row rfl rfl fun _ => rfl

/-! ### The channels' step and output -/

/-- Settles O28: TICK performs PulseStep of each channel on its old value, which writes its accumulator only. -/
theorem tickAdvancesThePulses : Obligations.TickAdvancesThePulses := by
  intro s t h
  obtain ⟨hp1, hp2, -⟩ := execTick_channels h
  exact ⟨hp1, hp2⟩

theorem phase_append (k lo : BitVec 8) : phase (k ++ lo) = k :=
  BitVec.extractLsb'_append_eq_left

/-- The output at phase value k (R111). -/
theorem pulseOut_of_phase (p : Pulse) (lo : BitVec 8) {k : Nat} (hk : k < 256) :
    pulseOut { p with acc := BitVec.ofNat 8 k ++ lo } = if k < p.duty.toNat then p.vol else 0 := by
  have hlt : BitVec.ofNat 8 k < p.duty ↔ k < p.duty.toNat := by
    rw [BitVec.lt_def, BitVec.toNat_ofNat, Nat.mod_eq_of_lt hk]
  simp only [pulseOut, phase_append, hlt]

/-- Of the numbers below n, exactly d are below d. -/
theorem count_lt_of_le {d n : Nat} (h : d ≤ n) : n.count (· < d) = d := by
  obtain ⟨m, rfl⟩ := Nat.exists_eq_add_of_le h
  rw [Nat.count_add, Nat.count_of_forall fun _ => id, Nat.count_of_forall_not fun k _ => Nat.not_lt.mpr (Nat.le_add_right d k),
    Nat.add_zero]

/-- Settles O37: the output is the volume at exactly the phase values below duty, and these are duty many. -/
theorem pulseIsHighOnDutyPhases : Obligations.PulseIsHighOnDutyPhases := by
  intro p lo hvol
  refine ⟨?_, fun k => pulseOut_of_phase p lo⟩
  have hhigh : ∀ k ∈ List.range 256,
      (pulseOut { p with acc := BitVec.ofNat 8 k ++ lo } == p.vol) = true ↔ decide (k < p.duty.toNat) = true := by
    intro k hk
    rw [pulseOut_of_phase p lo (List.mem_range.mp hk)]
    by_cases h : k < p.duty.toNat
    · simp [h]
    · simpa [h] using hvol.symm
  exact (List.countP_congr hhigh).trans (count_lt_of_le p.duty.isLt.le)

/-! ### The levels into the mix -/

/-- A gated level as a number (R220). -/
theorem gated_toNat {w : Nat} (e : BitVec 5) (k : Nat) (level : BitVec w) :
    (gated e k level).toNat = if e.getLsbD k then level.toNat else 0 := by
  unfold gated
  split <;> simp

/-- The noise output is the product of the held bit and the volume (R152). -/
theorem noiseOut_toNat (n : Noise) : (noiseOut n).toNat = n.bit.toNat * n.vol.toNat := by
  rcases BitVec.eq_zero_or_eq_one n.bit with h | h <;> simp [noiseOut, h]

/-- A pulse level is the volume while the channel is enabled and its phase value is below duty (R111, R220). -/
theorem gated_pulseOut (e : BitVec 5) (k : Nat) (p : Pulse) :
    gated e k (pulseOut p) = if e.getLsbD k = true ∧ p.acc.extractLsb' 8 8 < p.duty then p.vol else 0 :=
  (ite_and ..).symm

theorem tndIndex_eq (s : State) :
    tndIndex s =
      3 * (if s.enable.getLsbD 2 then s.tri.sample.toNat else 0)
        + 2 * (if s.enable.getLsbD 3 then s.noise.bit.toNat * s.noise.vol.toNat else 0)
        + (if s.enable.getLsbD 4 then s.dmc.out.toNat else 0) := by
  rw [tndIndex, gated_toNat, gated_toNat, gated_toNat, noiseOut_toNat]
  rfl

/-! ### The two sides of the mix -/

theorem pulseIndex_of_mono {c : Config} (h : c.stereoMode = .mono) (p1 p2 : BitVec 4) :
    (pulseIndexL c p1 p2).val = p1.toNat + p2.toNat ∧ (pulseIndexR c p1 p2).val = p1.toNat + p2.toNat := by
  simp [pulseIndexL, pulseIndexR, h, monoIndex]

theorem pulseIndex_of_stereo {c : Config} (h : c.stereoMode = .stereo) (p1 p2 : BitVec 4) :
    pulseIndexL c p1 p2 = (c.pulseBlendL[p1.toNat])[p2.toNat] ∧
      pulseIndexR c p1 p2 = (c.pulseBlendR[p1.toNat])[p2.toNat] := by
  simp [pulseIndexL, pulseIndexR, h, blend]

/-- In LUT mode a side of the mix is the exact sum of its two entries, which a well-formed configuration keeps at most 255 (R6,
R225). -/
theorem mixSide_toNat_of_lut {c : WfConfig} (h : c.val.mixMode = .lut) (i : Fin 31) (j : Fin 203) :
    (mixSide c.val i j).toNat = c.val.pulseLut[i].toNat + c.val.tndLut[j].toNat := by
  obtain ⟨-, hsum⟩ := c.val.wf_iff.mp c.property
  have hle := c.val.sumOk_iff.mp hsum i j
  rw [mixSide, h]
  exact BitVec.toNat_add_of_lt (by omega)

theorem mixSide_of_linear {c : Config} (h : c.mixMode = .linear) (i : Fin 31) (j : Fin 203) :
    mixSide c i j = (c.linearMix[i])[j] := by
  rw [mixSide, h]

theorem mix_eq_some {s : State} {l r : Byte} (h : mix s = some (l, r)) :
    ∃ j : Fin 203, j.val = tndIndex s ∧
      l = mixSide s.cfg.val (pulseIndexL s.cfg.val (pulseLevel s .pulse1) (pulseLevel s .pulse2)) j ∧
      r = mixSide s.cfg.val (pulseIndexR s.cfg.val (pulseLevel s .pulse1) (pulseLevel s .pulse2)) j := by
  unfold mix at h
  split at h
  · next hj =>
    cases h
    exact ⟨⟨tndIndex s, hj⟩, rfl, rfl, rfl⟩
  · cases h

/-- The DAC values that a TICK leaves and emits are the mix of the state it leaves: after stage 1 it writes nothing that the mix
reads (R228, R229, R240). -/
theorem execTick_dac {s t : State} (h : execTick s = .next t) :
    mix t = some (t.dacL, t.dacR) ∧ t.outputs = .dacWrite t.dacL t.dacR :: s.outputs := by
  obtain ⟨l, r, hmix, rfl⟩ := execTick_next s t h
  rw [counterStep_eq]
  exact ⟨hmix, by rw [advanceChannels_eq]; rfl⟩

/-- Settles O35: the indices are those of the state that TICK leaves, and each mode of the configuration, which TICK keeps, reads
its tables at them. -/
theorem tickMixesTheLevels : Obligations.TickMixesTheLevels := by
  intro s t h
  obtain ⟨hmix, hout⟩ := execTick_dac h
  obtain ⟨-, -, -, -, -, -, hcfg⟩ := execTick_channels h
  obtain ⟨j, hj, hl, hr⟩ := mix_eq_some hmix
  rw [tndIndex_eq] at hj
  simp only [pulseLevel, gated_pulseOut] at hl hr
  rw [hcfg] at hl hr
  refine ⟨_, _, j, hj, fun hmono => pulseIndex_of_mono hmono _ _, fun hstereo => pulseIndex_of_stereo hstereo _ _,
    fun hlut => ?_, fun hlinear => ?_, hout⟩
  · exact ⟨hl ▸ mixSide_toNat_of_lut hlut _ j, hr ▸ mixSide_toNat_of_lut hlut _ j⟩
  · exact ⟨hl.trans (mixSide_of_linear hlinear _ j), hr.trans (mixSide_of_linear hlinear _ j)⟩

end Sys2Proof.Machine
end

section
/-! SUPPORT. The triangle family: the triangle commands, the channel's step gated and ungated, its decay over a run of TICKs, and its
start at the midpoint (42_triangle.md R130 to R139). -/

namespace Sys2Proof.Machine

/-! ### The commands -/

/-- A Boolean at bit 0 as a number (R134). -/
theorem flagAt_zero_eq_ite (b : Bool) : flagAt b 0 = if b then 1 else 0 := by
  cases b <;> rfl

/-- WR.TGATE on the state: only gating an ungated triangle writes the accumulator (R133). -/
theorem exec_wrTgate (g : Bool) (s : State) :
    exec (.wrTgate g) s = .next { s with tri :=
      { s.tri with gate := g, acc := if g = true ∧ s.tri.gate = false then 0x8000 else s.tri.acc } } := by
  simp [exec, execWrTgate]

theorem exec_rdTgate (s : State) : exec .rdTgate s = .next (s.returnRead (if s.tri.gate then 1 else 0)) := by
  rw [exec, execRdTgate, flagAt_zero_eq_ite]

/-- Settles O10: the two writes of TGATE by the gate that holds, and the other commands by running them. -/
theorem triangleResults : Obligations.TriangleResults := by
  intro s
  refine ⟨fun hgate => ?_, fun hgate => ?_, exec_wrTgate false s, fun _ => rfl, exec_rdTgate s, rfl, rfl, rfl⟩
  · simp [exec_wrTgate, hgate]
  · have hkeep : ¬(true = true ∧ s.tri.gate = false) := by simp [hgate]
    rw [exec_wrTgate, if_neg hkeep, ← hgate]

/-- Settles O20, row by row of the triangle channel; TACC and TSAMPLE have no write. -/
theorem triangleCommands : Obligations.TriangleCommands := by
  refine ⟨writeDoes_of_row rfl rfl fun d => exec_wrTgate (d.getLsbD 0), writeDoes_of_row rfl rfl fun _ _ => rfl,
    readReturns_of_row rfl rfl exec_rdTgate, ?_, ?_, ?_, writeIsIllegal_of_row rfl rfl, writeIsIllegal_of_row rfl rfl⟩
  all_goals exact readReturns_of_row rfl rfl fun _ => rfl

/-! ### The channel's step -/

/-- A gated triangle reads the table at its old phase value and then advances (R130). -/
theorem triStep_of_gated (c : Config) {t : Tri} (h : t.gate = true) :
    triStep c t = { t with sample := c.triLut[(phase t.acc).toNat], acc := t.acc + t.delta } := by
  simp [triStep, h, advance]

/-- An ungated triangle is frozen and its sample decays by 1 to 0 (R130). -/
theorem triStep_of_ungated (c : Config) {t : Tri} (h : t.gate = false) :
    triStep c t = { t with sample := if t.sample = 0 then 0 else t.sample - 1 } := by
  have hopen : ¬t.gate = true := by simp [h]
  by_cases hzero : t.sample = 0
  · have hmin : ¬0 < t.sample.toNat := by simp [hzero]
    rw [triStep, if_neg hopen, if_neg hmin, if_pos hzero, ← hzero]
  · have hpos : 0 < t.sample.toNat := by bv_omega
    rw [triStep, if_neg hopen, if_pos hpos, if_neg hzero]

/-- Settles O29: TICK performs TriStep on the channel's old value, by the gate that holds. -/
theorem tickStepsTheTriangle : Obligations.TickStepsTheTriangle := by
  intro s t h
  obtain ⟨-, -, htri, -, -, -, -⟩ := execTick_channels h
  exact ⟨fun hgate => htri.trans (triStep_of_gated _ hgate), fun hgate => htri.trans (triStep_of_ungated _ hgate)⟩

/-! ### The decay while ungated -/

theorem triStep_sample_toNat_of_ungated (c : Config) {t : Tri} (h : t.gate = false) :
    (triStep c t).sample.toNat = t.sample.toNat - 1 := by
  rw [triStep_of_ungated c h]
  split <;> bv_omega

/-- k steps of an ungated triangle take k off its sample, down to 0, and keep its accumulator and gate (R139(b) and (c)). -/
theorem iterate_triStep_of_ungated (c : Config) (k : Nat) {t : Tri} (h : t.gate = false) :
    ((triStep c)^[k] t).sample.toNat = t.sample.toNat - k ∧ ((triStep c)^[k] t).acc = t.acc ∧
      ((triStep c)^[k] t).gate = false := by
  induction k with
  | zero => exact ⟨rfl, rfl, h⟩
  | succ k ih =>
    obtain ⟨hsample, hacc, hgate⟩ := ih
    rw [Function.iterate_succ_apply']
    refine ⟨?_, ?_, ?_⟩
    · rw [triStep_sample_toNat_of_ungated c hgate, hsample, Nat.sub_sub]
    · rw [triStep_of_ungated c hgate, hacc]
    · rw [triStep_gate, hgate]

/-- Settles O40: the run steps the triangle k times. -/
theorem ungatedTriangleDecays : Obligations.UngatedTriangleDecays := by
  intro k s hgate hsample
  obtain ⟨t, hrun, -, -, htri⟩ := perform_ticks k s hsample
  exact ⟨t, hrun, by rw [htri]; exact iterate_triStep_of_ungated _ k hgate⟩

/-! ### The start at the midpoint -/

/-- TICK does not read the old sample of a gated triangle, which the table entry replaces (R130). -/
theorem execTick_sample_of_gated {s : State} (h : s.tri.gate = true) (v : Byte) :
    execTick { s with tri := { s.tri with sample := v } } = execTick s := by
  have hadvance : advanceChannels { s with tri := { s.tri with sample := v } } = advanceChannels s := by
    rw [advanceChannels_eq, advanceChannels_eq, triStep_of_gated _ h, triStep_of_gated _ (t := { s.tri with sample := v }) h]
  rw [execTick, execTick, hadvance]

theorem execTick_completes_of_gated {s : State} (h : s.tri.gate = true) : ∃ t, execTick s = .next t := by
  rw [← execTick_sample_of_gated h 0]
  exact execTick_completes _ (Nat.zero_le 15)

/-- The state after WR.TGATE 1 on an ungated triangle, with the operations l still to come (R133). -/
def State.regated (s : State) (l : List Input) : State :=
  { s with tri := { s.tri with gate := true, acc := 0x8000 }, inputs := l }

/-- A run that first gates an ungated triangle goes on with its accumulator at the midpoint (R139(a)). -/
theorem perform_wrTgate_of_ungated (s : State) (l : List Input) (h : s.tri.gate = false) :
    perform (encode (.wrTgate true) :: l) s = perform l (s.regated l) := by
  obtain ⟨hregate, -⟩ := triangleResults { s with inputs := l }
  exact perform_cons_of_exec (decodeInput_encode (.wrTgate true)) (hregate h)

/-- Settles O41: the write gates the channel at phase value 0x80, where the TICK reads the table before it advances. -/
theorem regatedTriangleStartsAtMidpoint : Obligations.RegatedTriangleStartsAtMidpoint := by
  intro s hgate
  refine ⟨⟨s.regated [], perform_wrTgate_of_ungated s [] hgate, rfl, rfl⟩, ?_⟩
  obtain ⟨t, htick⟩ := execTick_completes_of_gated (s := s.regated []) rfl
  have hrun : perform [encode (.wrTgate true), .tick] s = .next { t with inputs := [] } := calc
    _ = perform [.tick] (s.regated [.tick]) := perform_wrTgate_of_ungated s [.tick] hgate
    _ = perform [] t := perform_cons_of_exec (i := .tick) rfl htick
    _ = _ := perform_nil t
  have hphase : ((0x8000 : BitVec 16).extractLsb' 8 8).toNat = 0x80 := by decide
  obtain ⟨hstep, -⟩ := tickStepsTheTriangle _ t htick
  have htri := hstep rfl
  simp only [State.regated, hphase] at htri
  exact ⟨_, hrun, by rw [htri], by rw [htri]⟩

end Sys2Proof.Machine
end

section
/-! SUPPORT. The noise family: the noise commands, the channel's step on an idle and on an effective tick, the inverse of the LFSR
shift, and its sequence from seed 1 (43_noise.md R150 to R166). -/

namespace Sys2Proof.Machine

/-! ### The commands -/

/-- Settles O11, by running the five writes; WR.NRATE by the region that holds. -/
theorem noiseWriteResults : Obligations.NoiseWriteResults := by
  intro s
  refine ⟨fun _ => rfl, fun _ => rfl, fun _ => rfl, fun _ => rfl, fun k hregion => ?_, fun k hregion => ?_⟩
  all_goals
    rw [exec, execWrNrate, hregion]
    rfl

/-- A Boolean at bit 7 as a number (R157). -/
theorem flagAt_seven_eq_ite (b : Bool) : flagAt b 7 = if b then 0x80 else 0 := by
  cases b <;> rfl

theorem exec_rdNmode (s : State) : exec .rdNmode s = .next (s.returnRead (if s.noise.short then 0x80 else 0)) := by
  rw [exec, execRdNmode, flagAt_seven_eq_ite]

/-- Settles O12, by running the seven reads. -/
theorem noiseReadResults : Obligations.NoiseReadResults :=
  fun s => ⟨rfl, exec_rdNmode s, rfl, rfl, rfl, rfl, rfl⟩

/-- Settles O22, row by row of the noise channel; NCLK, NCMP and NOUT have no write. -/
theorem noiseReadCommands : Obligations.NoiseReadCommands := by
  refine ⟨?_, readReturns_of_row rfl rfl exec_rdNmode, ?_, ?_, ?_, ?_, ?_, writeIsIllegal_of_row rfl rfl,
    writeIsIllegal_of_row rfl rfl, writeIsIllegal_of_row rfl rfl⟩
  all_goals exact readReturns_of_row rfl rfl fun _ => rfl

/-! ### The channel's step -/

theorem extractLsb'_one_eq_ofBool {w : Nat} (x : BitVec w) (i : Nat) : x.extractLsb' i 1 = BitVec.ofBool (x.getLsbD i) := by
  apply BitVec.eq_of_getLsbD_eq
  intro j hj
  obtain rfl : j = 0 := by omega
  simp

/-- The shift field by field: bit 0 is held, and its XOR with the tap bit enters at the top (R151). -/
theorem lfsrShift_eq (n : Noise) :
    lfsrShift n =
      { n with
        seed := BitVec.ofBool (n.seed.getLsbD 0 ^^ n.seed.getLsbD (lfsrTap n.short)) ++ n.seed.extractLsb' 1 14
        bit := BitVec.ofBool (n.seed.getLsbD 0) } := by
  simp only [lfsrShift, extractLsb'_one_eq_ofBool, BitVec.ofBool_xor_ofBool]

theorem noiseStep_of_idle {n : Noise} (h : compareWord (n.clock.clk + n.clock.delta) = n.clock.cmp) :
    noiseStep n = { n with clock := { n.clock with clk := n.clock.clk + n.clock.delta } } := by
  rw [noiseStep_eq, if_pos h, bitClockStep_fst, h]

/-- An effective tick takes the comparison word and shifts the LFSR once (R150, R151). -/
theorem noiseStep_of_effective {n : Noise} (h : compareWord (n.clock.clk + n.clock.delta) ≠ n.clock.cmp) :
    noiseStep n =
      { n with
        clock := { n.clock with clk := n.clock.clk + n.clock.delta, cmp := compareWord (n.clock.clk + n.clock.delta) }
        seed := BitVec.ofBool (n.seed.getLsbD 0 ^^ n.seed.getLsbD (lfsrTap n.short)) ++ n.seed.extractLsb' 1 14
        bit := BitVec.ofBool (n.seed.getLsbD 0) } := by
  rw [noiseStep_eq, if_neg h, lfsrShift_eq, bitClockStep_fst]

/-- Settles O30: TICK performs NoiseStep on the channel's old value, which shifts the LFSR on an effective tick only. -/
theorem tickClocksTheNoise : Obligations.TickClocksTheNoise := by
  intro s t h
  obtain ⟨-, -, -, hnoise, -, -, -⟩ := execTick_channels h
  refine ⟨fun hidle => hnoise.trans (noiseStep_of_idle hidle), fun heffective => ?_⟩
  rw [hnoise, noiseStep_of_effective heffective]
  exact ⟨rfl, rfl, rfl, rfl, rfl⟩

/-! ### The inverse of the shift -/

/-- Seed 0 shifts to seed 0 and outputs 0 (R153). -/
theorem lfsrShift_of_seed_eq_zero {n : Noise} (h : n.seed = 0) : lfsrShift n = { n with bit := 0 } := by
  simp [lfsrShift_eq, h]

theorem lfsrShifts_succ_of_seed_eq_zero (k : Nat) {n : Noise} (h : n.seed = 0) :
    lfsrShifts (k + 1) n = { n with bit := 0 } := by
  induction k generalizing n with
  | zero => exact lfsrShift_of_seed_eq_zero h
  | succ k ih =>
    rw [lfsrShifts, lfsrShift_of_seed_eq_zero h]
    exact ih h

/-- Bits 1 to 14 of the old seed stand one lower in the new one, and bit 0 is the feedback without the tap bit (R153). -/
theorem seed_eq_of_lfsrShift (n : Noise) :
    n.seed =
      (lfsrShift n).seed.extractLsb' 0 14 ++
        BitVec.ofBool ((lfsrShift n).seed.getLsbD 14 ^^ (lfsrShift n).seed.getLsbD (lfsrTap n.short - 1)) := by
  have htap : (lfsrShift n).seed.getLsbD (lfsrTap n.short - 1) = n.seed.getLsbD (lfsrTap n.short) := by
    cases h : n.short <;> exact lfsrShift_getLsbD n (by decide)
  apply BitVec.eq_of_getLsbD_eq
  intro i hi
  rw [BitVec.getLsbD_append]
  cases i with
  | zero =>
    rw [htap, lfsrShift_getLsbD_top]
    simp
  | succ j =>
    have hj : j < 14 := by omega
    simp [hj, lfsrShift_getLsbD n hj]

/-- Settles O43: seed 0 is kept by every shift, the inverse formula holds bit by bit, and only seed 0 shifts to 0. -/
theorem lfsrShiftIsInvertible : Obligations.LfsrShiftIsInvertible := by
  refine ⟨fun k n h => ?_, seed_eq_of_lfsrShift, lfsrShift_seed_ne_zero⟩
  cases k with
  | zero => exact ⟨h, fun hpos => absurd hpos (Nat.lt_irrefl 0)⟩
  | succ k => simp [lfsrShifts_succ_of_seed_eq_zero k h, h]

/-! ### The sequence from seed 1 -/

/-- Settles O44, by running the shifts: 16 in long mode and at most 93 in short mode. -/
theorem lfsrSequenceFromSeedOne : Obligations.LfsrSequenceFromSeedOne := by
  refine ⟨?outputs, ?seeds, ?period, ?minimal⟩
  case outputs => decide
  case seeds => decide
  case period => decide +kernel
  case minimal => decide +kernel

end Sys2Proof.Machine
end

section
/-! SUPPORT. The DMC family: the DMC commands, the level and the position at an effective clock, and the course of a whole buffer
(44_dmc.md R180 to R205). -/

namespace Sys2Proof.Machine

/-! ### The commands -/

/-- A Boolean at bit k as a shifted number (R72). -/
theorem flagAt_eq_ite_shiftLeft (b : Bool) (k : Nat) : flagAt b k = (if b then 1 else 0) <<< k := by
  cases b <;> rfl

theorem flagAt_sixteen_eq_ite (b : Bool) : flagAt b 16 = if b then 0x10000 else 0 := by
  cases b <;> rfl

/-- Settles O13, by running the five writes; WR.DPLAY and WR.DKILL restart the stream as DmcReset says. -/
theorem dmcWriteResults : Obligations.DmcWriteResults := by
  intro s
  refine ⟨fun _ => rfl, fun _ => rfl, fun _ _ _ => rfl, ?play, ?kill⟩
  case play =>
    rw [exec, execWrDplay, dmcReset_eq]
    rfl
  case kill =>
    rw [exec, execWrDkill, dmcStop, dmcReset_eq]
    rfl

/-- Settles O14, by running the eleven reads; the loop flag stands at bit 7 of DCFG and at bit 16 of DALEN. -/
theorem dmcReadResults : Obligations.DmcReadResults := by
  intro s
  refine ⟨rfl, rfl, ?dcfg, rfl, rfl, rfl, rfl, rfl, rfl, rfl, ?dalen⟩
  case dcfg =>
    rw [exec, execRdDcfg, dcfgWord, flagAt_seven_eq_ite]
    rfl
  case dalen =>
    rw [exec, execRdDalen, dalenWord, flagAt_sixteen_eq_ite]
    rfl

/-- Settles O24, row by row of the DMC; the eight registers from DOUT on have no write. -/
theorem dmcReadCommands : Obligations.DmcReadCommands := by
  refine ⟨?_, ?_, readReturns_of_row rfl rfl fun s => ?dcfg, ?_, ?_, ?_, ?_, ?_, ?_, ?_,
    readReturns_of_row rfl rfl fun s => ?dalen, ?_, ?_, ?_, ?_, ?_, ?_, ?_, ?_⟩
  case dcfg =>
    rw [exec, execRdDcfg, dcfgWord, flagAt_eq_ite_shiftLeft]
    rfl
  case dalen =>
    rw [exec, execRdDalen, dalenWord, flagAt_eq_ite_shiftLeft]
    rfl
  iterate 9 exact readReturns_of_row rfl rfl fun _ => rfl
  iterate 8 exact writeIsIllegal_of_row rfl rfl

/-! ### The level -/

/-- With a delta in [-55, 73] the 8-bit running total is the exact sum, at most 200, or wraps above 200 where the sum is negative;
so the clamp is saturation (R197). -/
theorem dmcClamp_toNat (out : BitVec 7) {delta : Int} (hlo : -55 ≤ delta) (hhi : delta ≤ 73) :
    ((dmcClamp out delta).toNat : Int) = max 0 (min 127 (out.toNat + delta)) := by
  have hout := out.isLt
  have htotal : (out.setWidth 8 + BitVec.ofInt 8 delta).toNat = (out.toNat + (delta % 256).toNat) % 256 := by
    rw [BitVec.toNat_add, BitVec.toNat_ofInt, BitVec.toNat_setWidth, Nat.mod_eq_of_lt (by omega : out.toNat < 2 ^ 8)]
    rfl
  rw [dmcClamp, htotal]
  split
  · change (0 : Int) = _
    omega
  · rw [BitVec.toNat_ofNat]
    omega

/-- Settles O46: every delta of the maps is in the range where the clamp saturates. -/
theorem dmcClampSaturates : Obligations.DmcClampSaturates := by
  intro out delta hdelta
  have hrange : ∀ e ∈ [(-4 : Int), -2, 0, 2, 4], -55 ≤ e ∧ e ≤ 73 := by decide
  obtain ⟨hlo, hhi⟩ := hrange delta hdelta
  exact dmcClamp_toNat out hlo hhi

theorem dmcClamp_rise (out : BitVec 7) {k : Nat} (hk : k ≤ 73) : (dmcClamp out k).toNat = min (out.toNat + k) 127 := by
  have hclamp := dmcClamp_toNat out (delta := k) (by omega) (by omega)
  omega

theorem dmcClamp_fall (out : BitVec 7) {k : Nat} (hk : k ≤ 55) : (dmcClamp out (-k)).toNat = out.toNat - k := by
  have hclamp := dmcClamp_toNat out (delta := -k) (by omega) (by omega)
  have hout := out.isLt
  omega

theorem dmcClamp_zero (out : BitVec 7) : (dmcClamp out 0).toNat = out.toNat := by
  have hclamp := dmcClamp_toNat out (delta := 0) (by decide) (by decide)
  omega

/-- The level after one bit (R180, R197). -/
theorem dmcClamp_dmap_full (out : BitVec 7) (b : Bool) :
    (dmcClamp out (dmap .full b.toNat)).toNat = if b then min (out.toNat + 2) 127 else out.toNat - 2 := by
  cases b with
  | false => exact dmcClamp_fall out (k := 2) (by decide)
  | true => exact dmcClamp_rise out (k := 2) (by decide)

/-- The level after two bits, which move it only when they are equal (R180, R197). -/
theorem dmcClamp_dmap_half (out : BitVec 7) (lo hi : Bool) :
    (dmcClamp out (dmap .half (lo.toNat + 2 * hi.toNat))).toNat =
      if lo && hi then min (out.toNat + 4) 127 else if lo || hi then out.toNat else out.toNat - 4 := by
  match lo, hi with
  | false, false => exact dmcClamp_fall out (k := 4) (by decide)
  | false, true => exact dmcClamp_zero out
  | true, false => exact dmcClamp_zero out
  | true, true => exact dmcClamp_rise out (k := 4) (by decide)

/-- In FULL mode the bit at bitOffset is taken (R196). -/
theorem dmcTake_full (d : Dmc) : dmcTake .full d = (d.cur.getLsbD d.bitOffset.toNat).toNat := by
  rw [← BitVec.testBit_toNat, Nat.toNat_testBit, dmcTake, Nat.shiftRight_eq_div_pow]
  exact Nat.and_two_pow_sub_one_eq_mod _ 1

/-- In HALF mode the bit at bitOffset is taken as the low one and the next as the high one (R196). -/
theorem dmcTake_half (d : Dmc) :
    dmcTake .half d = (d.cur.getLsbD d.bitOffset.toNat).toNat + 2 * (d.cur.getLsbD (d.bitOffset.toNat + 1)).toNat := by
  have hmod : dmcTake .half d = d.cur.toNat / 2 ^ d.bitOffset.toNat % 4 := by
    rw [dmcTake, Nat.shiftRight_eq_div_pow]
    exact Nat.and_two_pow_sub_one_eq_mod _ 2
  rw [hmod, ← BitVec.testBit_toNat, ← BitVec.testBit_toNat, Nat.toNat_testBit, Nat.toNat_testBit, Nat.pow_succ,
    ← Nat.div_div_eq_div_mul]
  omega

theorem dmcAdvance_level (c : Config) (d : Dmc) : (dmcAdvance c d).out = d.out ∧ (dmcAdvance c d).cur = d.cur := by
  rcases dmcAdvance_cases c d with he | he | he | he <;> rw [he] <;> exact ⟨rfl, rfl⟩

theorem dmcConsume_cur (c : Config) (d : Dmc) (b : Byte) : (dmcConsume c d b).cur = b :=
  (dmcAdvance_level c _).right

theorem dmcConsume_out (c : Config) (d : Dmc) (b : Byte) :
    (dmcConsume c d b).out = dmcClamp d.out (dmap c.dmcMode (dmcTake c.dmcMode { d with cur := b })) :=
  (dmcAdvance_level c _).left

/-! ### The position -/

/-- The end of a stream field by field: the position is 0 and a stream that does not loop has increment 0 (R181, R198). -/
theorem dmcEnd_eq (c : Config) (d : Dmc) :
    dmcEnd c d =
      { d with
        offset := 0
        bitOffset := 0
        clock :=
          { clk := if c.dmcResetClearsClock then 0 else d.clock.clk
            cmp := if c.dmcResetClearsClock then 0 else d.clock.cmp
            delta := if d.loop then d.clock.delta else 0 } } := by
  cases h : d.loop <;> simp [dmcEnd, h, dmcStop, Dmc.setDelta, dmcReset_eq]

theorem dmcConsume_stream (c : Config) (d : Dmc) (b : Byte) :
    (dmcConsume c d b).addr = d.addr ∧ (dmcConsume c d b).len = d.len ∧ (dmcConsume c d b).loop = d.loop :=
  dmcAdvance_stream c _

section
variable (c : Config) {d : Dmc} (b : Byte)

/-- Inside a byte the position advances by STEP bits (R198). -/
theorem dmcConsume_of_ne_last (h : d.bitOffset ≠ dmcLast c.dmcMode) :
    ∃ o, dmcConsume c d b = { d with bitOffset := d.bitOffset + BitVec.ofNat 3 (dmcBits c.dmcMode), cur := b, out := o } :=
  ⟨_, if_neg h⟩

/-- After the last bit of a byte inside the stream the position advances to the next byte (R198). -/
theorem dmcConsume_of_last (h : d.bitOffset = dmcLast c.dmcMode) (hmore : d.offset + 1 ≠ d.len) :
    ∃ o, dmcConsume c d b = { d with offset := d.offset + 1, bitOffset := 0, cur := b, out := o } :=
  ⟨_, (if_pos h).trans (if_neg hmore)⟩

/-- After the last bit of the last byte the stream ends (R198). -/
theorem dmcConsume_of_end (h : d.bitOffset = dmcLast c.dmcMode) (hend : d.offset + 1 = d.len) :
    ∃ o, dmcConsume c d b = dmcEnd c { d with cur := b, out := o } :=
  ⟨_, (if_pos h).trans (if_pos hend)⟩

end

theorem dmcLast_eq_ite (m : DmcMode) : dmcLast m = if m = .full then 7 else 6 := by
  cases m <;> rfl

theorem ofNat_dmcBits_eq_ite (m : DmcMode) : BitVec.ofNat 3 (dmcBits m) = if m = .full then 1 else 2 := by
  cases m <;> rfl

/-! ### The effective tick -/

/-- The channel with its bit clock advanced and serviced (R102, R182). -/
def Dmc.clocked (d : Dmc) : Dmc :=
  { d with clock :=
    { clk := d.clock.clk + d.clock.delta, cmp := compareWord (d.clock.clk + d.clock.delta), delta := d.clock.delta } }

theorem dmcFetch_eq_some_iff (m : Memory) (d : Dmc) (b : Byte) :
    dmcFetch m d = some b ↔
      if d.bitOffset = 0 then memRead m (d.addr + d.offset.setWidth 32) = some b else b = d.cur := by
  unfold dmcFetch
  split
  · rfl
  · rw [Option.some_inj, eq_comm]

theorem exists_dmcFetch_eq_some {m : Memory} {d : Dmc}
    (h : d.bitOffset = 0 → memRead m (d.addr + d.offset.setWidth 32) ≠ none) : ∃ b, dmcFetch m d = some b := by
  unfold dmcFetch
  split
  · next hzero => exact Option.ne_none_iff_exists'.mp (h hzero)
  · exact ⟨d.cur, rfl⟩

theorem dmcClock_of_fetch (c : Config) {m : Memory} {d : Dmc} {b : Byte} (h : dmcFetch m d = some b) :
    dmcClock c m d = (dmcConsume c d b, false) := by
  rw [dmcClock, h]

theorem dmcStep_of_effective (c : Config) {m : Memory} {d : Dmc} {b : Byte}
    (h : compareWord (d.clock.clk + d.clock.delta) ≠ d.clock.cmp) (hfetch : dmcFetch m d = some b) :
    dmcStep c m d = (dmcConsume c d.clocked b, false) := by
  rw [dmcStep_eq, if_neg h, bitClockStep_fst]
  exact dmcClock_of_fetch c (d := d.clocked) hfetch

/-- A TICK with an effective clock of the DMC that has its byte records no fault and consumes the byte (R182, R196). -/
theorem execTick_effective_dmc {s t : State} {b : Byte} (h : execTick s = .next t)
    (heffective : compareWord (s.dmc.clock.clk + s.dmc.clock.delta) ≠ s.dmc.clock.cmp)
    (hfetch : dmcFetch s.sampleMem s.dmc = some b) :
    t.status = s.status ∧ t.dmc = dmcConsume s.cfg.val s.dmc.clocked b := by
  obtain ⟨-, -, -, -, hdmc, hstatus, -⟩ := execTick_channels h
  rw [dmcStep_of_effective _ heffective hfetch] at hdmc hstatus
  exact ⟨by rw [hstatus, Bool.or_false], hdmc⟩

/-- Settles O33: the bits taken of the byte give the delta of their mode, and the clamp saturates. -/
theorem tickAppliesTheDmcDelta : Obligations.TickAppliesTheDmcDelta := by
  intro s t b h heffective hbyte lo hi
  obtain ⟨hstatus, hdmc⟩ := execTick_effective_dmc h heffective ((dmcFetch_eq_some_iff _ _ _).mpr hbyte)
  refine ⟨hstatus, by rw [hdmc, dmcConsume_cur], ?_⟩
  rw [hdmc, dmcConsume_out]
  cases s.cfg.val.dmcMode with
  | full =>
    rw [dmcTake_full]
    exact dmcClamp_dmap_full s.dmc.out lo
  | half =>
    rw [dmcTake_half]
    exact dmcClamp_dmap_half s.dmc.out lo hi

/-- Settles O34: the three ways of the advance, by whether the position is the last of its byte and the byte the last of the
stream. -/
theorem tickAdvancesTheDmcPosition : Obligations.TickAdvancesTheDmcPosition := by
  intro s t h heffective hmapped clk last size
  obtain ⟨b, hfetch⟩ := exists_dmcFetch_eq_some hmapped
  obtain ⟨-, hdmc⟩ := execTick_effective_dmc h heffective hfetch
  have hlast : last = dmcLast s.cfg.val.dmcMode := (dmcLast_eq_ite _).symm
  have hsize : size = BitVec.ofNat 3 (dmcBits s.cfg.val.dmcMode) := (ofNat_dmcBits_eq_ite _).symm
  obtain ⟨haddr, hlen, hloop⟩ := dmcConsume_stream s.cfg.val s.dmc.clocked b
  rw [hdmc, hlast, hsize]
  refine ⟨haddr, hlen, hloop, fun hinside => ?_, fun hatLast hmore => ?_, fun hatLast hend => ?_⟩
  · obtain ⟨o, he⟩ := dmcConsume_of_ne_last s.cfg.val (d := s.dmc.clocked) b hinside
    rw [he]
    exact ⟨rfl, rfl, rfl⟩
  · obtain ⟨o, he⟩ := dmcConsume_of_last s.cfg.val (d := s.dmc.clocked) b hatLast hmore
    rw [he]
    exact ⟨rfl, rfl, rfl⟩
  · obtain ⟨o, he⟩ := dmcConsume_of_end s.cfg.val (d := s.dmc.clocked) b hatLast hend
    rw [he, dmcEnd_eq]
    exact ⟨rfl, rfl, rfl⟩

/-! ### The course of a whole buffer -/

/-- One effective clock of the DMC (R182, R201). -/
def State.clockDmc (s : State) : State :=
  s.settleDmc (dmcClock s.cfg.val s.sampleMem s.dmc)

theorem clockDmc_of_fetch {s : State} {b : Byte} (h : dmcFetch s.sampleMem s.dmc = some b) :
    s.clockDmc = { s with dmc := dmcConsume s.cfg.val s.dmc b } := by
  rw [State.clockDmc, dmcClock_of_fetch _ h]
  rfl

theorem dmcClocks_eq_iterate (k : Nat) (s : State) : dmcClocks k s = State.clockDmc^[k] s := by
  induction k generalizing s with
  | zero => rfl
  | succ k ih => exact ih s.clockDmc

theorem dmcClocks_succ (k : Nat) (s : State) : dmcClocks (k + 1) s = (dmcClocks k s).clockDmc := by
  rw [dmcClocks_eq_iterate, dmcClocks_eq_iterate, Function.iterate_succ_apply']

/-- The stream of d at bit g of its buffer, counted over all its bytes, with the byte and the level that it holds there. -/
def Dmc.atBit (d : Dmc) (g : Nat) (cur : Byte) (out : BitVec 7) : Dmc :=
  { d with offset := BitVec.ofNat 16 (g / 8), bitOffset := BitVec.ofNat 3 g, cur := cur, out := out }

/-- Every byte of the stream lies where memory answers. -/
def Dmc.Mapped (m : Memory) (d : Dmc) : Prop :=
  ∀ k, k < d.len.toNat → (memRead m (d.addr + BitVec.ofNat 32 k)).isSome = true

theorem Dmc.atBit_zero {d : Dmc} (hoffset : d.offset = 0) (hbit : d.bitOffset = 0) : d.atBit 0 d.cur d.out = d := by
  cases d
  simp_all [Dmc.atBit]

/-- Inside a mapped buffer every effective clock has its byte. -/
theorem exists_dmcFetch_atBit {m : Memory} {d : Dmc} (hd : d.Mapped m) {g : Nat} (cur : Byte) (out : BitVec 7)
    (hg : g < 8 * d.len.toNat) : ∃ b, dmcFetch m (d.atBit g cur out) = some b := by
  have hlen := d.len.isLt
  have hoffset : (d.atBit g cur out).offset.setWidth 32 = BitVec.ofNat 32 (g / 8) := by
    apply BitVec.eq_of_toNat_eq
    rw [Dmc.atBit, BitVec.toNat_setWidth, BitVec.toNat_ofNat, BitVec.toNat_ofNat]
    omega
  apply exists_dmcFetch_eq_some
  intro _
  rw [hoffset]
  exact Option.ne_none_iff_isSome.mpr (hd (g / 8) (by omega))

theorem dmcBits_pos (m : DmcMode) : 0 < dmcBits m := by
  cases m <;> decide

/-- At a multiple of STEP the bit is at most LAST in its byte (R180). -/
theorem mod_add_dmcBits_le {m : DmcMode} {g : Nat} (h : dmcBits m ∣ g) : g % 8 + dmcBits m ≤ 8 := by
  cases m with
  | full => exact Nat.mod_lt g (by decide)
  | half =>
    have heven : 2 ∣ g := h
    change g % 8 + 2 ≤ 8
    omega

theorem ofNat_eq_dmcLast_iff (m : DmcMode) (g : Nat) : BitVec.ofNat 3 g = dmcLast m ↔ g % 8 + dmcBits m = 8 := by
  rw [← BitVec.toNat_inj, BitVec.toNat_ofNat]
  cases m with
  | full => exact (Nat.add_right_cancel_iff (k := 7) (n := 1)).symm
  | half => exact (Nat.add_right_cancel_iff (k := 6) (n := 2)).symm

theorem Dmc.atBit_offset_add_one_toNat (d : Dmc) (g : Nat) (cur : Byte) (out : BitVec 7) :
    ((d.atBit g cur out).offset + 1).toNat = (g / 8 + 1) % 2 ^ 16 := by
  rw [Dmc.atBit, BitVec.toNat_add, BitVec.toNat_ofNat]
  exact Nat.mod_add_mod ..

section
variable {c : Config} {d : Dmc} {g : Nat} (cur : Byte) (out : BitVec 7) (b : Byte) (hg : dmcBits c.dmcMode ∣ g)
include hg

/-- While the buffer has more bits, an effective clock advances the position by STEP of them (R198). -/
theorem dmcConsume_atBit (hmore : g + dmcBits c.dmcMode < 8 * d.len.toNat) :
    ∃ o, dmcConsume c (d.atBit g cur out) b = d.atBit (g + dmcBits c.dmcMode) b o := by
  have hle := mod_add_dmcBits_le hg
  have hlen := d.len.isLt
  by_cases hlast : g % 8 + dmcBits c.dmcMode = 8
  · have hbyte : (g + dmcBits c.dmcMode) / 8 = g / 8 + 1 := by omega
    have hbit : BitVec.ofNat 3 (g + dmcBits c.dmcMode) = 0 := by
      apply BitVec.eq_of_toNat_eq
      rw [BitVec.toNat_ofNat]
      change _ = 0
      omega
    have hoffset : (d.atBit g cur out).offset + 1 ≠ d.len := by
      rw [ne_eq, ← BitVec.toNat_inj, Dmc.atBit_offset_add_one_toNat]
      omega
    obtain ⟨o, he⟩ := dmcConsume_of_last c (d := d.atBit g cur out) b ((ofNat_eq_dmcLast_iff _ g).mpr hlast) hoffset
    refine ⟨o, he.trans ?_⟩
    simp only [Dmc.atBit, hbyte, hbit, BitVec.ofNat_add]
    rfl
  · have hbyte : (g + dmcBits c.dmcMode) / 8 = g / 8 := by omega
    obtain ⟨o, he⟩ := dmcConsume_of_ne_last c (d := d.atBit g cur out) b (mt (ofNat_eq_dmcLast_iff _ g).mp hlast)
    refine ⟨o, he.trans ?_⟩
    simp only [Dmc.atBit, hbyte, BitVec.ofNat_add]

/-- The last effective clock of the buffer ends the stream (R198). -/
theorem dmcConsume_atBit_end (hend : g + dmcBits c.dmcMode = 8 * d.len.toNat) :
    ∃ o, dmcConsume c (d.atBit g cur out) b = dmcEnd c { d with cur := b, out := o } := by
  have hle := mod_add_dmcBits_le hg
  have hpos := dmcBits_pos c.dmcMode
  have hlen := d.len.isLt
  have hoffset : (d.atBit g cur out).offset + 1 = d.len := by
    rw [← BitVec.toNat_inj, Dmc.atBit_offset_add_one_toNat]
    omega
  have hlast : g % 8 + dmcBits c.dmcMode = 8 := by omega
  obtain ⟨o, he⟩ := dmcConsume_of_end c (d := d.atBit g cur out) b ((ofNat_eq_dmcLast_iff _ g).mpr hlast) hoffset
  exact ⟨o, by rw [he, dmcEnd_eq, dmcEnd_eq]; rfl⟩

end

/-- N bytes are 8 · N bits and take N × (8 / STEP) effective clocks (R180, R202). -/
theorem dmcBits_mul_clocks (m : DmcMode) (n : Nat) : dmcBits m * (n * (if m = .full then 8 else 4)) = 8 * n := by
  cases m <;> simp [dmcBits] <;> omega

/-- Inside its mapped buffer the next effective clock of a stream consumes a byte and records no fault. -/
theorem dmcClocks_succ_of_atBit {s : State} (hmapped : s.dmc.Mapped s.sampleMem) {j g : Nat} {cur : Byte} {out : BitVec 7}
    (hg : g < 8 * s.dmc.len.toNat) (hclocks : dmcClocks j s = { s with dmc := s.dmc.atBit g cur out }) :
    ∃ b, dmcClocks (j + 1) s = { s with dmc := dmcConsume s.cfg.val (s.dmc.atBit g cur out) b } := by
  obtain ⟨b, hfetch⟩ := exists_dmcFetch_atBit hmapped cur out hg
  exact ⟨b, by rw [dmcClocks_succ, hclocks, clockDmc_of_fetch hfetch]⟩

section
variable {s : State} (hoffset : s.dmc.offset = 0) (hbit : s.dmc.bitOffset = 0) (hmapped : s.dmc.Mapped s.sampleMem)
include hoffset hbit hmapped

/-- Before the last effective clock of its buffer a stream has changed its position, its byte and its level only. -/
theorem dmcClocks_inside {j : Nat} (hj : dmcBits s.cfg.val.dmcMode * j < 8 * s.dmc.len.toNat) :
    ∃ cur out, dmcClocks j s = { s with dmc := s.dmc.atBit (dmcBits s.cfg.val.dmcMode * j) cur out } := by
  induction j with
  | zero => exact ⟨s.dmc.cur, s.dmc.out, by rw [Nat.mul_zero, Dmc.atBit_zero hoffset hbit]; rfl⟩
  | succ j ih =>
    rw [Nat.mul_succ] at hj ⊢
    have hprev := Nat.lt_of_add_right_lt hj
    obtain ⟨cur, out, hclocks⟩ := ih hprev
    obtain ⟨b, hnext⟩ := dmcClocks_succ_of_atBit hmapped hprev hclocks
    obtain ⟨o, hconsume⟩ := dmcConsume_atBit cur out b (Nat.dvd_mul_right _ j) hj
    exact ⟨b, o, by rw [hnext, hconsume]⟩

/-- The last effective clock of its buffer ends a stream, with no fault recorded. -/
theorem dmcClocks_whole (hlen : s.dmc.len ≠ 0) {n : Nat} (hn : dmcBits s.cfg.val.dmcMode * n = 8 * s.dmc.len.toNat) :
    ∃ cur out, dmcClocks n s = { s with dmc := dmcEnd s.cfg.val { s.dmc with cur := cur, out := out } } := by
  have hpos := dmcBits_pos s.cfg.val.dmcMode
  have hlen' : 0 < s.dmc.len.toNat := Nat.pos_of_ne_zero fun h => hlen (BitVec.eq_of_toNat_eq h)
  cases n with
  | zero => omega
  | succ j =>
    rw [Nat.mul_succ] at hn
    have hprev : dmcBits s.cfg.val.dmcMode * j < 8 * s.dmc.len.toNat := by omega
    obtain ⟨cur, out, hclocks⟩ := dmcClocks_inside hoffset hbit hmapped hprev
    obtain ⟨b, hnext⟩ := dmcClocks_succ_of_atBit hmapped hprev hclocks
    obtain ⟨o, hconsume⟩ := dmcConsume_atBit_end cur out b (Nat.dvd_mul_right _ j) hn
    exact ⟨b, o, by rw [hnext, hconsume]⟩

end

/-- Settles O47: the rate is kept at every bit inside the buffer, and the end of a stream that does not loop zeroes it. -/
theorem dmcPlaysTheWholeBufferOnce : Obligations.DmcPlaysTheWholeBufferOnce := by
  intro s hoffset hbit hloop hlen hmapped clocks
  have hbits : dmcBits s.cfg.val.dmcMode * clocks = 8 * s.dmc.len.toNat := dmcBits_mul_clocks _ _
  obtain ⟨cur, out, hend⟩ := dmcClocks_whole hoffset hbit hmapped hlen hbits
  refine ⟨fun j hj => ?_, ?_⟩
  · obtain ⟨cur, out, hinside⟩ := dmcClocks_inside hoffset hbit hmapped (j := j) <| calc
      _ < dmcBits s.cfg.val.dmcMode * clocks := Nat.mul_lt_mul_of_pos_left hj (dmcBits_pos _)
      _ = _ := hbits
    rw [hinside]
    rfl
  · rw [hend, dmcEnd_eq]
    exact ⟨if_neg (by simp [hloop]), rfl, rfl, rfl⟩

/-- Settles O48: the end of a looping stream is DmcReset, which restores the position of the start. -/
theorem dmcLoopReturnsToItsStart : Obligations.DmcLoopReturnsToItsStart := by
  intro s hoffset hbit hloop hlen hmapped t
  obtain ⟨cur, out, hend⟩ := dmcClocks_whole hoffset hbit hmapped hlen (dmcBits_mul_clocks s.cfg.val.dmcMode _)
  have ht : t = { s with dmc := dmcReset s.cfg.val { s.dmc with cur := cur, out := out } } :=
    hend.trans (by rw [dmcEnd, if_pos hloop])
  rw [ht]
  simp [dmcReset, hoffset, hbit]

end Sys2Proof.Machine
end

section
/-! SUPPORT. The mixer family: the mixer commands, what a TICK leaves as it was, and that the enable flags act on the mix alone
(45_mixer.md R220 to R231, 46_callback.md R240). -/

namespace Sys2Proof.Machine

/-! ### The commands -/

/-- Settles O15, by running the write and the three reads. -/
theorem mixerResults : Obligations.MixerResults :=
  fun _ => ⟨fun _ => rfl, rfl, rfl, rfl⟩

/-- Settles O25, row by row of the mixer; DACL and DACR have no write. -/
theorem mixerCommands : Obligations.MixerCommands := by
  refine ⟨writeDoes_of_row rfl rfl fun _ _ => rfl, ?_, ?_, ?_, writeIsIllegal_of_row rfl rfl, writeIsIllegal_of_row rfl rfl⟩
  all_goals exact readReturns_of_row rfl rfl fun _ => rfl

/-! ### What a TICK keeps -/

/-- The fields that no stage of TICK writes (R240). -/
theorem execTick_frame {s t : State} (h : execTick s = .next t) :
    t.stage = s.stage ∧ t.enable = s.enable ∧ t.region = s.region ∧ t.status.ill = s.status.ill ∧ t.cfg = s.cfg ∧
      t.sampleMem = s.sampleMem ∧ t.inputs = s.inputs := by
  obtain ⟨l, r, -, rfl⟩ := execTick_next s t h
  rw [counterStep_eq, advanceChannels_eq]
  exact ⟨rfl, rfl, rfl, rfl, rfl, rfl, rfl⟩

/-- Settles O27: with the sample at most 15 the tnd index is a table index, so the mix answers, and the one event is its DAC write. -/
theorem tickCompletes : Obligations.TickCompletes := by
  intro s hsample
  obtain ⟨t, ht⟩ := execTick_completes s hsample
  obtain ⟨-, hout⟩ := execTick_dac ht
  exact ⟨t, ht, hout, execTick_frame ht⟩

/-! ### The enable flags -/

theorem advanceChannels_with_enable (s : State) (e : BitVec 5) :
    advanceChannels { s with enable := e } = { advanceChannels s with enable := e } := by
  rw [advanceChannels_eq, advanceChannels_eq]

theorem advanceChannels_outputs (s : State) : (advanceChannels s).outputs = s.outputs := by
  rw [advanceChannels_eq]

/-- After the mix, TICK carries the flags and the DAC values along: the counters read neither (R229, R242). -/
theorem counterStep_dacWrite_with_enable (s : State) (e : BitVec 5) (l r l' r' : Byte) :
    counterStep (State.dacWrite { s with enable := e } l' r') =
      { counterStep (s.dacWrite l r) with
        enable := e, dacL := l', dacR := r', outputs := .dacWrite l' r' :: s.outputs } := by
  rw [counterStep_eq, counterStep_eq]
  rfl

/-- Settles O56: stage 1 commutes with replacing the flags, so the two runs differ in them and in the mix they are given. -/
theorem enableOnlyGatesTheMix : Obligations.EnableOnlyGatesTheMix := by
  intro s t u e ht hu
  obtain ⟨l, r, -, rfl⟩ := execTick_next s t ht
  obtain ⟨l', r', -, rfl⟩ := execTick_next _ u hu
  rw [advanceChannels_with_enable, counterStep_dacWrite_with_enable _ e l r, advanceChannels_outputs]

end Sys2Proof.Machine
end

section
/-! SUPPORT. The callback family: the region, frame, status and counter commands, what a TICK does to the lossy counters, and the
time they have counted n TICKs after RESET (46_callback.md R242 to R245, 47_region_status.md R261 to R265). -/

namespace Sys2Proof.Machine

/-! ### The commands -/

/-- WR.REGION on the state: only a region that does not hold is written and logged (R261). -/
theorem exec_wrRegion (r : Region) (s : State) :
    exec (.wrRegion r) s =
      .next (if r = s.region then s else { s with region := r, outputs := .regionLog r :: s.outputs }) :=
  rfl

/-- The bit of a region as a number (R9, R262). -/
theorem flagAt_bitOfRegion_eq_ite (r : Region) : flagAt (bitOfRegion r) 0 = if r = .pal then 1 else 0 := by
  cases r <;> rfl

theorem exec_rdRegion (s : State) : exec .rdRegion s = .next (s.returnRead (if s.region = .pal then 1 else 0)) := by
  rw [exec, execRdRegion, flagAt_bitOfRegion_eq_ite]

/-- The frame period by the region that holds (R9, R263). -/
theorem frameUs_eq_ite (c : Config) (r : Region) : frameUs c r = if r = .pal then c.frameUsPal else c.frameUsNtsc := by
  cases r <;> rfl

theorem exec_rdFrameus (s : State) :
    exec .rdFrameus s =
      .next (s.returnRead (if s.region = .pal then s.cfg.val.frameUsPal else s.cfg.val.frameUsNtsc)) := by
  rw [exec, execRdFrameus, frameUs_eq_ite]

/-- A Boolean at bit 1 as a number (R265). -/
theorem flagAt_one_eq_ite (b : Bool) : flagAt b 1 = if b then 2 else 0 := by
  cases b <;> rfl

/-- Settles O16: WR.REGION by whether the region is the one that holds, and the reads by running them. -/
theorem regionStatusCounterResults : Obligations.RegionStatusCounterResults := by
  intro s
  refine ⟨fun r hr => ?change, ?same, exec_rdRegion s, exec_rdFrameus s, ?status, rfl, rfl⟩
  case change => rw [exec_wrRegion, if_neg hr]
  case same => rw [exec_wrRegion, if_pos rfl]
  case status =>
    rw [exec, execRdStatus, statusWord, flagAt_one_eq_ite, flagAt_zero_eq_ite]
    rfl

/-- Settles O26, row by row of the region, counter and status registers; all but REGION have no write. -/
theorem regionStatusCounterCommands : Obligations.RegionStatusCounterCommands := by
  refine ⟨writeDoes_of_row rfl rfl fun d => exec_wrRegion (regionOfBit (d.getLsbD 0)), readReturns_of_row rfl rfl exec_rdRegion,
    readReturns_of_row rfl rfl exec_rdFrameus, readReturns_of_row rfl rfl fun _ => rfl, readReturns_of_row rfl rfl fun _ => rfl,
    readReturns_of_row rfl rfl fun s => ?status, ?_, ?_, ?_, ?_⟩
  case status => rw [exec, execRdStatus, statusWord, flagAt_eq_ite_shiftLeft, flagAt_zero_eq_ite]
  all_goals exact writeIsIllegal_of_row rfl rfl

/-! ### The counters -/

/-- What a TICK leaves in the counters: CounterStep of their old values, since no earlier stage of TICK writes them (R240, R242). -/
theorem execTick_counters {s t : State} (h : execTick s = .next t) :
    t.micros = s.micros + BitVec.ofNat 32 s.cfg.val.tickUs.val ∧
    t.millis = (if 1000 ≤ s.msFrac.toNat + s.cfg.val.tickUs.val then s.millis + 1 else s.millis) ∧
    t.msFrac = BitVec.ofNat 10 (if 1000 ≤ s.msFrac.toNat + s.cfg.val.tickUs.val
      then s.msFrac.toNat + s.cfg.val.tickUs.val - 1000 else s.msFrac.toNat + s.cfg.val.tickUs.val) := by
  obtain ⟨l, r, -, rfl⟩ := execTick_next s t h
  rw [counterStep_eq, advanceChannels_eq]
  exact ⟨rfl, rfl, rfl⟩

/-- Settles O36: with msFrac below 1000 and TICK_US at most 1000, what stays in msFrac is below 1000, so it fits its 10 bits. -/
theorem tickCountsTime : Obligations.TickCountsTime := by
  intro s t h hfrac
  dsimp only
  obtain ⟨hmicros, hmillis, hmsFrac⟩ := execTick_counters h
  have hus : s.cfg.val.tickUs.val ≤ 1000 := s.cfg.val.tickUs.property.2
  refine ⟨?_, fun hcarry => ⟨?_, ?_⟩, fun hstay => ⟨?_, ?_⟩⟩
  · rw [hmicros, BitVec.toNat_add, BitVec.toNat_ofNat, Nat.add_mod_mod]
  · rw [hmsFrac, if_pos hcarry, BitVec.toNat_ofNat, Nat.mod_eq_of_lt (by omega)]
  · rw [hmillis, if_pos hcarry, BitVec.toNat_add]
    rfl
  · rw [hmsFrac, if_neg (by omega), BitVec.toNat_ofNat, Nat.mod_eq_of_lt (by omega)]
  · rw [hmillis, if_neg (by omega)]

/-! ### The counted time -/

/-- The counters stand where N microseconds after RESET put them (R243). -/
def State.HasCounted (s : State) (N : Nat) : Prop :=
  s.micros.toNat = N % 2 ^ 32 ∧ s.millis.toNat = N / 1000 % 2 ^ 32 ∧ s.msFrac.toNat = N % 1000

/-- A TICK counts TICK_US more microseconds: msFrac carries into millis exactly when N passes a multiple of 1000 (R242). -/
theorem execTick_hasCounted {s t : State} {N : Nat} (h : execTick s = .next t) (hs : s.HasCounted N) :
    t.HasCounted (N + s.cfg.val.tickUs.val) := by
  obtain ⟨hmicros, hmillis, hmsFrac⟩ := hs
  have hus : s.cfg.val.tickUs.val ≤ 1000 := s.cfg.val.tickUs.property.2
  obtain ⟨hmicros', hcarry, hstay⟩ := tickCountsTime s t h (by omega)
  refine ⟨by rw [hmicros', hmicros, Nat.mod_add_mod], ?_⟩
  by_cases hreach : 1000 ≤ s.msFrac.toNat + s.cfg.val.tickUs.val
  · obtain ⟨hmsFrac', hmillis'⟩ := hcarry hreach
    omega
  · obtain ⟨hmsFrac', hmillis'⟩ := hstay (by omega)
    rw [hmillis']
    omega

/-- The first TICK of a run of TICKs completes, and the run goes on with a sample that is again at most 15 (R25, R78). -/
theorem perform_ticks_succ (n : Nat) {s : State} (h : s.tri.sample.toNat ≤ 15) :
    ∃ t, execTick { s with inputs := ticks n } = .next t ∧ t.tri.sample.toNat ≤ 15 ∧
      perform (ticks (n + 1)) s = perform (ticks n) t := by
  obtain ⟨t, htick⟩ := execTick_completes { s with inputs := ticks n } h
  obtain ⟨-, -, htri, -⟩ := execTick_channels htick
  refine ⟨t, htick, ?_, perform_cons_of_exec (x := .tick) (i := .tick) rfl htick⟩
  rw [htri]
  exact triStep_sample_le s.cfg s.tri h

/-- A run of n TICKs completes and counts n times TICK_US, which every TICK keeps (R243). -/
theorem perform_ticks_hasCounted (n : Nat) {s : State} {N : Nat} (h : s.tri.sample.toNat ≤ 15) (hs : s.HasCounted N) :
    ∃ t, perform (ticks n) s = .next t ∧ t.HasCounted (N + n * s.cfg.val.tickUs.val) := by
  induction n generalizing s N with
  | zero => exact ⟨{ s with inputs := [] }, perform_nil s, by rwa [Nat.zero_mul, Nat.add_zero]⟩
  | succ n ih =>
    obtain ⟨t, htick, ht, hfirst⟩ := perform_ticks_succ n h
    obtain ⟨-, -, -, -, hcfg, -, -⟩ := execTick_frame htick
    obtain ⟨u, hrun, hu⟩ := ih ht (execTick_hasCounted htick hs)
    rw [hcfg, Nat.add_assoc, Nat.add_comm _ (n * _), ← Nat.succ_mul] at hu
    exact ⟨u, hfirst.trans hrun, hu⟩

/-- Settles O39: RESET puts the counters and the triangle sample at 0, whatever they were, and keeps TICK_US. -/
theorem countersAfterTicks : Obligations.CountersAfterTicks := by
  intro n s
  obtain ⟨t, hrun, hcounted⟩ := perform_ticks_hasCounted n (N := 0)
    (s := { State.reset with cfg := s.cfg, sampleMem := s.sampleMem, inputs := ticks n, outputs := s.outputs })
    (Nat.zero_le 15) ⟨rfl, rfl, rfl⟩
  rw [Nat.zero_add] at hcounted
  exact ⟨t, (perform_cons_of_exec (x := .reset) (i := .reset) rfl rfl).trans hrun, hcounted⟩

end Sys2Proof.Machine
end

section
/-! SUPPORT. The exceptions and reset family: what a TICK whose DMC fetch finds no memory leaves of the DMC and of STATUS, and RESET
as an operation and during a TICK (60_exceptions.md R302, 44_dmc.md R201, 70_reset_and_hazards.md R330, R331). -/

namespace Sys2Proof.Machine

/-! ### The fetch fault -/

/-- Stopping the stream field by field: the position and the increment are 0, and DMC_RESET_CLEARS_CLOCK decides whether clk and cmp
are kept (R181, R190). -/
theorem dmcStop_eq (c : Config) (d : Dmc) :
    dmcStop c d =
      { d with
        offset := 0
        bitOffset := 0
        clock :=
          { clk := if c.dmcResetClearsClock then 0 else d.clock.clk
            cmp := if c.dmcResetClearsClock then 0 else d.clock.cmp
            delta := 0 } } := by
  rw [dmcStop, dmcReset_eq, Dmc.setDelta]

theorem dmcFetch_eq_none_of_unmapped {m : Memory} {d : Dmc} (hbit : d.bitOffset = 0)
    (hmem : memRead m (d.addr + d.offset.setWidth 32) = none) : dmcFetch m d = none := by
  rw [dmcFetch, if_pos hbit, hmem]

/-- An effective clock that finds no memory goes no further than the bit clock (R196). -/
theorem dmcStep_of_fetch_fault (c : Config) {m : Memory} {d : Dmc}
    (h : compareWord (d.clock.clk + d.clock.delta) ≠ d.clock.cmp) (hfetch : dmcFetch m d = none) :
    dmcStep c m d = (d.clocked, true) := by
  have hclocked : dmcFetch m d.clocked = none := hfetch
  rw [dmcStep_eq, if_neg h, bitClockStep_fst, ← Dmc.clocked, dmcClock, hclocked]

/-- A TICK with an effective clock of the DMC that finds no memory records the fault and stops the advanced channel (R201, R302). -/
theorem execTick_fetch_fault_dmc {s t : State} (h : execTick s = .next t)
    (heffective : compareWord (s.dmc.clock.clk + s.dmc.clock.delta) ≠ s.dmc.clock.cmp)
    (hfetch : dmcFetch s.sampleMem s.dmc = none) :
    t.status = s.status.setDmcf ∧ t.dmc = dmcStop s.cfg.val s.dmc.clocked := by
  obtain ⟨-, -, -, -, hdmc, hstatus, -⟩ := execTick_channels h
  rw [dmcStep_of_fetch_fault _ heffective hfetch] at hdmc hstatus
  exact ⟨by rw [hstatus, Bool.or_true, Status.setDmcf], hdmc⟩

/-- Settles O32: the TICK completes as every TICK with such a sample does, and the channel it stops is the one its bit clock
advanced. -/
theorem tickRecordsADmcFetchFault : Obligations.TickRecordsADmcFetchFault := by
  intro s hsample heffective hbit hmem
  obtain ⟨t, htick, hout, -⟩ := tickCompletes s hsample
  obtain ⟨hstatus, hdmc⟩ :=
    execTick_fetch_fault_dmc htick heffective (dmcFetch_eq_none_of_unmapped hbit hmem)
  exact ⟨t, htick, hstatus, hout, hdmc.trans (dmcStop_eq s.cfg.val s.dmc.clocked)⟩

/-! ### RESET -/

/-- Settles O17: the operation by running it; as an input, and in place of a TICK it aborts, RESET decodes to that operation and
placing it at the ports leaves every field it keeps. -/
theorem resetPutsEveryFieldAtItsResetValue : Obligations.ResetPutsEveryFieldAtItsResetValue := by
  intro s after
  have hexec : exec .reset s = .next after := rfl
  exact ⟨hexec, (step_placeInput_of_ok (x := .reset) rfl).trans hexec,
    (step_placeInput_of_ok (x := .resetDuringTick) rfl).trans hexec⟩

end Sys2Proof.Machine
end
